-- ==== Sys2Proof/Word.lean ====
section
/-! DEFINITION. The two word widths of the machine: 8-bit data and 16-bit addresses (00_scope.md R7). -/

namespace Sys2Proof

/-- A byte: register contents, memory contents, port numbers and port values (R7, R20, R60, R61). -/
abbrev Byte := BitVec 8

/-- A 16-bit value: PC, SP, a register pair, a memory address (R7, R25, R27, R22, R60). -/
abbrev Word := BitVec 16

end Sys2Proof
end

