-- ==== Sys2Proof/Config.lean ====
section
/-! DEFINITION. The parameters of a run (00_scope.md R8 to R11; the list that closes 92_eei_decisions.md) and the values the host draws
at a yield. The spec's default numbers stand in Machine/Params.lean. -/

namespace Sys2Proof

/-- What a write to the program region does (R8, R63). -/
inductive RomWritePolicy where
  /-- The byte is stored like any other (the default, D6). -/
  | apply
  /-- Nothing is stored and the instruction otherwise completes. -/
  | ignore
deriving DecidableEq, Repr

/-- One entry of a cycle table: the counts of one opcode byte when its condition is false and when it is true. -/
structure CycleEntry where
  opcode : Byte
  notTaken : Nat
  taken : Nat
deriving DecidableEq, Repr

/-- The parameters of a run, fixed while it lasts. -/
structure Config where
  /-- `ProgramRegionSize`: the program region is addresses 0 to `programRegionSize - 1` (R8). -/
  programRegionSize : Nat
  /-- `RomWritePolicy` (R8, R63). -/
  romWritePolicy : RomWritePolicy
  /-- `VideoBase`: where the renderer's bytes begin; no rule of the core reads it (R8). -/
  videoBase : Nat
  /-- `VideoSize`: how many bytes the renderer may read (R8). -/
  videoSize : Nat
  /-- `HalfBudget`: the cycles of half a frame (R9). -/
  halfBudget : Nat
  /-- `MidVector`, 0..7 (R9). -/
  midVector : BitVec 3
  /-- `EndVector`, 0..7 (R9). -/
  endVector : BitVec 3
  /-- `HaltIdleCycles`: what a step taken while halted returns (R9). -/
  haltIdleCycles : Nat
  /-- The entries of `Cycles(opcode, taken)` that differ from the default table of R320 (R9; log 10). -/
  cycleOverrides : List CycleEntry
  /-- `ModeledOpcodes`, given by what it leaves out of the 244 documented bytes (R10; log 9). -/
  disabledOpcodes : List Byte
  /-- `InputPorts`: the IN ports that return an input snapshot (R11). -/
  inputPorts : List Byte
  /-- `ShiftReadPort` (R11). -/
  shiftReadPort : Byte
  /-- `ShiftAmountPort` (R11). -/
  shiftAmountPort : Byte
  /-- `ShiftDataPort` (R11). -/
  shiftDataPort : Byte
  /-- `SoundMask`: OUT port number and the mask of its relevant bits (R11). -/
  soundMask : List (Byte × Byte)
deriving DecidableEq, Repr

/-- FREE VALUE (log 8): the byte the input provider supplies for a port at a yield that the state's host queue does not describe,
for the count of yields before it (R275, U7: "any value, a fresh draw for every p ... at every yield"). -/
opaque Config.inputDraw : Nat → Byte → Byte

/-- FREE VALUE (log 8): the exit request at such a yield (R276, U8: "any value (a boolean draw) at every yield"). -/
opaque Config.exitDraw : Nat → Bool

end Sys2Proof
end

