-- ==== Sys2Proof/Syntax.lean ====
section
/-! DEFINITION. The instructions (30_encoding.md): one constructor of Instr for each documented opcode byte of the map R101, carrying the
operand bytes it has, and one for the bytes that have no instruction (R102). Form gives the families of R110 with their operand fields. -/

namespace Sys2Proof

/-- The seven 8-bit general registers (R20). -/
inductive Reg where
  | a | b | c | d | e | h | l
deriving DecidableEq, Repr

/-- What a 3-bit field `ddd` or `sss` selects: a register, or M, the memory byte at HL (R21, R93). -/
inductive Operand where
  | reg (r : Reg)
  | mem
deriving DecidableEq, Repr

/-- What a 2-bit field `pp` selects in LXI, INX, DCX and DAD (R22, R94). -/
inductive Pair where
  | bc | de | hl | sp
deriving DecidableEq, Repr

/-- The three pairs that PUSH and POP move; their fourth, PSW, has instructions of its own (R22, R24). -/
inductive StackPair where
  | bc | de | hl
deriving DecidableEq, Repr

/-- The two pairs LDAX and STAX go through (R22, R94). -/
inductive IndexPair where
  | bc | de
deriving DecidableEq, Repr

/-- The eight operations selected by `op[5:3]` in quadrant 10 and in the immediate group (R92). -/
inductive AluOp where
  | add | adc | sub | sbb | ana | xra | ora | cmp
deriving DecidableEq, Repr

/-- The eight conditions of the field `ccc` (R95). -/
inductive Cond where
  | nz | z | nc | c | po | pe | p | m
deriving DecidableEq, Repr

/-- An instruction with its operand bytes. `d8`, `p8` are byte 2; `d16`, `a16` are bytes 3 and 2, byte 3 high (R96 to R98). -/
inductive Instr where
  -- the twelve bytes of R102, and any byte outside ModeledOpcodes (R10, R103)
  | unsupported (opcode : Byte)
  -- 0x00 to 0x0F
  | nop
  | lxiB (d16 : Word)
  | staxB
  | inxB
  | inrB
  | dcrB
  | mviB (d8 : Byte)
  | rlc
  | dadB
  | ldaxB
  | dcxB
  | inrC
  | dcrC
  | mviC (d8 : Byte)
  | rrc
  -- 0x10 to 0x1F
  | lxiD (d16 : Word)
  | staxD
  | inxD
  | inrD
  | dcrD
  | mviD (d8 : Byte)
  | ral
  | dadD
  | ldaxD
  | dcxD
  | inrE
  | dcrE
  | mviE (d8 : Byte)
  | rar
  -- 0x20 to 0x2F
  | lxiH (d16 : Word)
  | shld (a16 : Word)
  | inxH
  | inrH
  | dcrH
  | mviH (d8 : Byte)
  | daa
  | dadH
  | lhld (a16 : Word)
  | dcxH
  | inrL
  | dcrL
  | mviL (d8 : Byte)
  | cma
  -- 0x30 to 0x3F
  | lxiSp (d16 : Word)
  | sta (a16 : Word)
  | inxSp
  | inrM
  | dcrM
  | mviM (d8 : Byte)
  | stc
  | dadSp
  | lda (a16 : Word)
  | dcxSp
  | inrA
  | dcrA
  | mviA (d8 : Byte)
  | cmc
  -- 0x40 to 0x4F
  | movBB
  | movBC
  | movBD
  | movBE
  | movBH
  | movBL
  | movBM
  | movBA
  | movCB
  | movCC
  | movCD
  | movCE
  | movCH
  | movCL
  | movCM
  | movCA
  -- 0x50 to 0x5F
  | movDB
  | movDC
  | movDD
  | movDE
  | movDH
  | movDL
  | movDM
  | movDA
  | movEB
  | movEC
  | movED
  | movEE
  | movEH
  | movEL
  | movEM
  | movEA
  -- 0x60 to 0x6F
  | movHB
  | movHC
  | movHD
  | movHE
  | movHH
  | movHL
  | movHM
  | movHA
  | movLB
  | movLC
  | movLD
  | movLE
  | movLH
  | movLL
  | movLM
  | movLA
  -- 0x70 to 0x7F
  | movMB
  | movMC
  | movMD
  | movME
  | movMH
  | movML
  | hlt
  | movMA
  | movAB
  | movAC
  | movAD
  | movAE
  | movAH
  | movAL
  | movAM
  | movAA
  -- 0x80 to 0x8F
  | addB
  | addC
  | addD
  | addE
  | addH
  | addL
  | addM
  | addA
  | adcB
  | adcC
  | adcD
  | adcE
  | adcH
  | adcL
  | adcM
  | adcA
  -- 0x90 to 0x9F
  | subB
  | subC
  | subD
  | subE
  | subH
  | subL
  | subM
  | subA
  | sbbB
  | sbbC
  | sbbD
  | sbbE
  | sbbH
  | sbbL
  | sbbM
  | sbbA
  -- 0xA0 to 0xAF
  | anaB
  | anaC
  | anaD
  | anaE
  | anaH
  | anaL
  | anaM
  | anaA
  | xraB
  | xraC
  | xraD
  | xraE
  | xraH
  | xraL
  | xraM
  | xraA
  -- 0xB0 to 0xBF
  | oraB
  | oraC
  | oraD
  | oraE
  | oraH
  | oraL
  | oraM
  | oraA
  | cmpB
  | cmpC
  | cmpD
  | cmpE
  | cmpH
  | cmpL
  | cmpM
  | cmpA
  -- 0xC0 to 0xCF
  | rnz
  | popB
  | jnz (a16 : Word)
  | jmp (a16 : Word)
  | cnz (a16 : Word)
  | pushB
  | adi (d8 : Byte)
  | rst0
  | rz
  | ret
  | jz (a16 : Word)
  | cz (a16 : Word)
  | call (a16 : Word)
  | aci (d8 : Byte)
  | rst1
  -- 0xD0 to 0xDF
  | rnc
  | popD
  | jnc (a16 : Word)
  | outPort (p8 : Byte)
  | cnc (a16 : Word)
  | pushD
  | sui (d8 : Byte)
  | rst2
  | rc
  | jc (a16 : Word)
  | inPort (p8 : Byte)
  | cc (a16 : Word)
  | sbi (d8 : Byte)
  | rst3
  -- 0xE0 to 0xEF
  | rpo
  | popH
  | jpo (a16 : Word)
  | xthl
  | cpo (a16 : Word)
  | pushH
  | ani (d8 : Byte)
  | rst4
  | rpe
  | pchl
  | jpe (a16 : Word)
  | xchg
  | cpe (a16 : Word)
  | xri (d8 : Byte)
  | rst5
  -- 0xF0 to 0xFF
  | rp
  | popPsw
  | jp (a16 : Word)
  | di
  | cp (a16 : Word)
  | pushPsw
  | ori (d8 : Byte)
  | rst6
  | rm
  | sphl
  | jm (a16 : Word)
  | ei
  | cm (a16 : Word)
  | cpi (d8 : Byte)
  | rst7
deriving DecidableEq, Repr

/-- The families of the summary R110, with the operand each field selects. -/
inductive Form where
  | mov (dst src : Operand)
  | mvi (dst : Operand) (d8 : Byte)
  | lxi (rp : Pair) (d16 : Word)
  | lda (a16 : Word)
  | sta (a16 : Word)
  | lhld (a16 : Word)
  | shld (a16 : Word)
  | ldax (rp : IndexPair)
  | stax (rp : IndexPair)
  | xchg
  | alu (op : AluOp) (src : Operand)
  | aluImm (op : AluOp) (d8 : Byte)
  | inr (o : Operand)
  | dcr (o : Operand)
  | inx (rp : Pair)
  | dcx (rp : Pair)
  | dad (rp : Pair)
  | daa
  | rlc
  | rrc
  | ral
  | rar
  | cma
  | cmc
  | stc
  | jmp (a16 : Word)
  | jcc (cc : Cond) (a16 : Word)
  | call (a16 : Word)
  | ccc (cc : Cond) (a16 : Word)
  | ret
  | rcc (cc : Cond)
  | rst (n : BitVec 3)
  | pchl
  | push (rp : StackPair)
  | pop (rp : StackPair)
  | pushPsw
  | popPsw
  | xthl
  | sphl
  | inPort (p8 : Byte)
  | outPort (p8 : Byte)
  | ei
  | di
  | hlt
  | nop
  | unsupported (opcode : Byte)
deriving DecidableEq, Repr

end Sys2Proof
end

