-- ==== Sys2Proof/WellFormed.lean ====
section
/-! DEFINITION. What is well formed: an instruction (30_encoding.md R102, R103), and the parameters of a run (93_implementation_defined.md
U10, which tells a model to take these conditions as preconditions). -/

namespace Sys2Proof

/-- The twelve opcode bytes that name no documented instruction (R102). -/
def unsupportedBytes : List Byte :=
  [0x08, 0x10, 0x18, 0x20, 0x28, 0x30, 0x38, 0xCB, 0xD9, 0xDD, 0xED, 0xFD]

/-- "Operand bytes never make an instruction illegal: every value of d8, d16, a16, p8 is legal" (R103), so the one check is that the
constructor for a byte without an instruction carries one of the twelve bytes. The wildcard stands for exactly the 244 documented ones. -/
def Instr.wellFormed : Instr → Bool
  | .unsupported op => unsupportedBytes.contains op
  | _ => true

/-- A list of keys without a repeat. -/
def distinct : List Byte → Bool
  | [] => true
  | x :: xs => !xs.contains x && distinct xs

/-- The OUT ports that have a role, in the order of R284. -/
def Config.outRoles (c : Config) : List Byte :=
  c.shiftAmountPort :: c.shiftDataPort :: c.soundMask.map (·.1)

/-- The conditions of U10 on the parameters; vectors and masks are in range by their types. -/
def Config.wf (c : Config) : Bool :=
  decide (1 ≤ c.halfBudget)
    && decide (1 ≤ c.haltIdleCycles)
    && c.cycleOverrides.all (fun e => decide (1 ≤ e.notTaken) && decide (1 ≤ e.taken))
    && decide (c.programRegionSize ≤ 65536)
    && !c.inputPorts.contains c.shiftReadPort
    && distinct c.outRoles

end Sys2Proof
end

