-- ==== Sys2Proof/Decode.lean ====
section
/-! DEFINITION. Decoding and encoding (30_encoding.md). The decoder is the full map R101, one list for each row of its table, indexed by the
opcode byte. The encoder is written apart from it, from the bit patterns of the formats R91 and the summary R110 with the field codes of
R92 to R95, so that the round trip checks the one against the other. -/

namespace Sys2Proof

/-- `{hi, lo}`: the 16-bit value with `hi` in bits 15:8 (00_scope.md R13). -/
def word16 (hi lo : Byte) : Word := hi ++ lo

/-- Bits 15:8. -/
def hiByte (w : Word) : Byte := w.extractLsb' 8 8

/-- Bits 7:0. -/
def loByte (w : Word) : Byte := w.extractLsb' 0 8

/-! ## The opcode map (R101): each cell takes byte 2 and byte 3 -/

/-- An instruction of one byte. -/
def imp (i : Instr) : Byte → Byte → Instr := fun _ _ => i

/-- An instruction with an 8-bit immediate or port number in byte 2 (R96, R98). -/
def imm8 (f : Byte → Instr) : Byte → Byte → Instr := fun b2 _ => f b2

/-- An instruction with a 16-bit immediate or address: byte 2 low, byte 3 high (R97). -/
def imm16 (f : Word → Instr) : Byte → Byte → Instr := fun b2 b3 => f (word16 b3 b2)

/-- A byte without an instruction (R102); "no operand byte is read" (R105). -/
def unsupp (op : Byte) : Byte → Byte → Instr := fun _ _ => .unsupported op

/-- Row 0x of the map R101. -/
def mapRow0 : List (Byte → Byte → Instr) :=
  [imp .nop, imm16 .lxiB, imp .staxB, imp .inxB, imp .inrB, imp .dcrB, imm8 .mviB, imp .rlc,
   unsupp 0x08, imp .dadB, imp .ldaxB, imp .dcxB, imp .inrC, imp .dcrC, imm8 .mviC, imp .rrc]

/-- Row 1x of the map R101. -/
def mapRow1 : List (Byte → Byte → Instr) :=
  [unsupp 0x10, imm16 .lxiD, imp .staxD, imp .inxD, imp .inrD, imp .dcrD, imm8 .mviD, imp .ral,
   unsupp 0x18, imp .dadD, imp .ldaxD, imp .dcxD, imp .inrE, imp .dcrE, imm8 .mviE, imp .rar]

/-- Row 2x of the map R101. -/
def mapRow2 : List (Byte → Byte → Instr) :=
  [unsupp 0x20, imm16 .lxiH, imm16 .shld, imp .inxH, imp .inrH, imp .dcrH, imm8 .mviH, imp .daa,
   unsupp 0x28, imp .dadH, imm16 .lhld, imp .dcxH, imp .inrL, imp .dcrL, imm8 .mviL, imp .cma]

/-- Row 3x of the map R101. -/
def mapRow3 : List (Byte → Byte → Instr) :=
  [unsupp 0x30, imm16 .lxiSp, imm16 .sta, imp .inxSp, imp .inrM, imp .dcrM, imm8 .mviM, imp .stc,
   unsupp 0x38, imp .dadSp, imm16 .lda, imp .dcxSp, imp .inrA, imp .dcrA, imm8 .mviA, imp .cmc]

/-- Row 4x of the map R101. -/
def mapRow4 : List (Byte → Byte → Instr) :=
  [imp .movBB, imp .movBC, imp .movBD, imp .movBE, imp .movBH, imp .movBL, imp .movBM, imp .movBA,
   imp .movCB, imp .movCC, imp .movCD, imp .movCE, imp .movCH, imp .movCL, imp .movCM, imp .movCA]

/-- Row 5x of the map R101. -/
def mapRow5 : List (Byte → Byte → Instr) :=
  [imp .movDB, imp .movDC, imp .movDD, imp .movDE, imp .movDH, imp .movDL, imp .movDM, imp .movDA,
   imp .movEB, imp .movEC, imp .movED, imp .movEE, imp .movEH, imp .movEL, imp .movEM, imp .movEA]

/-- Row 6x of the map R101. -/
def mapRow6 : List (Byte → Byte → Instr) :=
  [imp .movHB, imp .movHC, imp .movHD, imp .movHE, imp .movHH, imp .movHL, imp .movHM, imp .movHA,
   imp .movLB, imp .movLC, imp .movLD, imp .movLE, imp .movLH, imp .movLL, imp .movLM, imp .movLA]

/-- Row 7x of the map R101. -/
def mapRow7 : List (Byte → Byte → Instr) :=
  [imp .movMB, imp .movMC, imp .movMD, imp .movME, imp .movMH, imp .movML, imp .hlt, imp .movMA,
   imp .movAB, imp .movAC, imp .movAD, imp .movAE, imp .movAH, imp .movAL, imp .movAM, imp .movAA]

/-- Row 8x of the map R101. -/
def mapRow8 : List (Byte → Byte → Instr) :=
  [imp .addB, imp .addC, imp .addD, imp .addE, imp .addH, imp .addL, imp .addM, imp .addA,
   imp .adcB, imp .adcC, imp .adcD, imp .adcE, imp .adcH, imp .adcL, imp .adcM, imp .adcA]

/-- Row 9x of the map R101. -/
def mapRow9 : List (Byte → Byte → Instr) :=
  [imp .subB, imp .subC, imp .subD, imp .subE, imp .subH, imp .subL, imp .subM, imp .subA,
   imp .sbbB, imp .sbbC, imp .sbbD, imp .sbbE, imp .sbbH, imp .sbbL, imp .sbbM, imp .sbbA]

/-- Row Ax of the map R101. -/
def mapRowA : List (Byte → Byte → Instr) :=
  [imp .anaB, imp .anaC, imp .anaD, imp .anaE, imp .anaH, imp .anaL, imp .anaM, imp .anaA,
   imp .xraB, imp .xraC, imp .xraD, imp .xraE, imp .xraH, imp .xraL, imp .xraM, imp .xraA]

/-- Row Bx of the map R101. -/
def mapRowB : List (Byte → Byte → Instr) :=
  [imp .oraB, imp .oraC, imp .oraD, imp .oraE, imp .oraH, imp .oraL, imp .oraM, imp .oraA,
   imp .cmpB, imp .cmpC, imp .cmpD, imp .cmpE, imp .cmpH, imp .cmpL, imp .cmpM, imp .cmpA]

/-- Row Cx of the map R101. -/
def mapRowC : List (Byte → Byte → Instr) :=
  [imp .rnz, imp .popB, imm16 .jnz, imm16 .jmp, imm16 .cnz, imp .pushB, imm8 .adi, imp .rst0,
   imp .rz, imp .ret, imm16 .jz, unsupp 0xCB, imm16 .cz, imm16 .call, imm8 .aci, imp .rst1]

/-- Row Dx of the map R101. -/
def mapRowD : List (Byte → Byte → Instr) :=
  [imp .rnc, imp .popD, imm16 .jnc, imm8 .outPort, imm16 .cnc, imp .pushD, imm8 .sui, imp .rst2,
   imp .rc, unsupp 0xD9, imm16 .jc, imm8 .inPort, imm16 .cc, unsupp 0xDD, imm8 .sbi, imp .rst3]

/-- Row Ex of the map R101. -/
def mapRowE : List (Byte → Byte → Instr) :=
  [imp .rpo, imp .popH, imm16 .jpo, imp .xthl, imm16 .cpo, imp .pushH, imm8 .ani, imp .rst4,
   imp .rpe, imp .pchl, imm16 .jpe, imp .xchg, imm16 .cpe, unsupp 0xED, imm8 .xri, imp .rst5]

/-- Row Fx of the map R101. -/
def mapRowF : List (Byte → Byte → Instr) :=
  [imp .rp, imp .popPsw, imm16 .jp, imp .di, imm16 .cp, imp .pushPsw, imm8 .ori, imp .rst6,
   imp .rm, imp .sphl, imm16 .jm, imp .ei, imm16 .cm, unsupp 0xFD, imm8 .cpi, imp .rst7]

/-- The map R101: 256 cells in order of the opcode byte. -/
def opcodeMap : List (Byte → Byte → Instr) :=
  mapRow0 ++ mapRow1 ++ mapRow2 ++ mapRow3 ++ mapRow4 ++ mapRow5 ++ mapRow6 ++ mapRow7
    ++ mapRow8 ++ mapRow9 ++ mapRowA ++ mapRowB ++ mapRowC ++ mapRowD ++ mapRowE ++ mapRowF

/-- The instruction whose opcode byte is `op` and whose next two bytes are `b2` and `b3`: total (R103). -/
def decodeBytes (op b2 b3 : Byte) : Instr :=
  (opcodeMap.getD op.toNat (unsupp op)) b2 b3

/-- Decoding under `ModeledOpcodes`: "if op is not in ModeledOpcodes the result is unsupported, whatever the map says; otherwise it is the
map's entry" (R103). -/
def decodeModeled (disabled : List Byte) (op b2 b3 : Byte) : Instr :=
  if disabled.contains op then .unsupported op else decodeBytes op b2 b3

/-! ## The encoder -/

/-- Register codes (R21, R93). -/
def Reg.code : Reg → BitVec 3
  | .b => 0 | .c => 1 | .d => 2 | .e => 3 | .h => 4 | .l => 5 | .a => 7

/-- Code 6 is M (R21, R93). -/
def Operand.code : Operand → BitVec 3
  | .reg r => r.code
  | .mem => 6

/-- Pair codes (R22, R94). -/
def Pair.code : Pair → BitVec 2
  | .bc => 0 | .de => 1 | .hl => 2 | .sp => 3

/-- Pair codes of PUSH and POP (R22); code 3 is PSW. -/
def StackPair.code : StackPair → BitVec 2
  | .bc => 0 | .de => 1 | .hl => 2

/-- In LDAX and STAX only `op[4]` varies (R94). -/
def IndexPair.code : IndexPair → BitVec 1
  | .bc => 0 | .de => 1

/-- The selector of the arithmetic and logic operations (R92). -/
def AluOp.code : AluOp → BitVec 3
  | .add => 0 | .adc => 1 | .sub => 2 | .sbb => 3 | .ana => 4 | .xra => 5 | .ora => 6 | .cmp => 7

/-- Condition codes (R95). -/
def Cond.code : Cond → BitVec 3
  | .nz => 0 | .z => 1 | .nc => 2 | .c => 3 | .po => 4 | .pe => 5 | .p => 6 | .m => 7

/-- The family of an instruction and what its fields select (R110). -/
def Instr.form : Instr → Form
  | .nop => .nop
  | .lxiB d16 => .lxi .bc d16
  | .staxB => .stax .bc
  | .inxB => .inx .bc
  | .inrB => .inr (.reg .b)
  | .dcrB => .dcr (.reg .b)
  | .mviB d8 => .mvi (.reg .b) d8
  | .rlc => .rlc
  | .dadB => .dad .bc
  | .ldaxB => .ldax .bc
  | .dcxB => .dcx .bc
  | .inrC => .inr (.reg .c)
  | .dcrC => .dcr (.reg .c)
  | .mviC d8 => .mvi (.reg .c) d8
  | .rrc => .rrc
  | .lxiD d16 => .lxi .de d16
  | .staxD => .stax .de
  | .inxD => .inx .de
  | .inrD => .inr (.reg .d)
  | .dcrD => .dcr (.reg .d)
  | .mviD d8 => .mvi (.reg .d) d8
  | .ral => .ral
  | .dadD => .dad .de
  | .ldaxD => .ldax .de
  | .dcxD => .dcx .de
  | .inrE => .inr (.reg .e)
  | .dcrE => .dcr (.reg .e)
  | .mviE d8 => .mvi (.reg .e) d8
  | .rar => .rar
  | .lxiH d16 => .lxi .hl d16
  | .shld a16 => .shld a16
  | .inxH => .inx .hl
  | .inrH => .inr (.reg .h)
  | .dcrH => .dcr (.reg .h)
  | .mviH d8 => .mvi (.reg .h) d8
  | .daa => .daa
  | .dadH => .dad .hl
  | .lhld a16 => .lhld a16
  | .dcxH => .dcx .hl
  | .inrL => .inr (.reg .l)
  | .dcrL => .dcr (.reg .l)
  | .mviL d8 => .mvi (.reg .l) d8
  | .cma => .cma
  | .lxiSp d16 => .lxi .sp d16
  | .sta a16 => .sta a16
  | .inxSp => .inx .sp
  | .inrM => .inr .mem
  | .dcrM => .dcr .mem
  | .mviM d8 => .mvi .mem d8
  | .stc => .stc
  | .dadSp => .dad .sp
  | .lda a16 => .lda a16
  | .dcxSp => .dcx .sp
  | .inrA => .inr (.reg .a)
  | .dcrA => .dcr (.reg .a)
  | .mviA d8 => .mvi (.reg .a) d8
  | .cmc => .cmc
  | .movBB => .mov (.reg .b) (.reg .b)
  | .movBC => .mov (.reg .b) (.reg .c)
  | .movBD => .mov (.reg .b) (.reg .d)
  | .movBE => .mov (.reg .b) (.reg .e)
  | .movBH => .mov (.reg .b) (.reg .h)
  | .movBL => .mov (.reg .b) (.reg .l)
  | .movBM => .mov (.reg .b) .mem
  | .movBA => .mov (.reg .b) (.reg .a)
  | .movCB => .mov (.reg .c) (.reg .b)
  | .movCC => .mov (.reg .c) (.reg .c)
  | .movCD => .mov (.reg .c) (.reg .d)
  | .movCE => .mov (.reg .c) (.reg .e)
  | .movCH => .mov (.reg .c) (.reg .h)
  | .movCL => .mov (.reg .c) (.reg .l)
  | .movCM => .mov (.reg .c) .mem
  | .movCA => .mov (.reg .c) (.reg .a)
  | .movDB => .mov (.reg .d) (.reg .b)
  | .movDC => .mov (.reg .d) (.reg .c)
  | .movDD => .mov (.reg .d) (.reg .d)
  | .movDE => .mov (.reg .d) (.reg .e)
  | .movDH => .mov (.reg .d) (.reg .h)
  | .movDL => .mov (.reg .d) (.reg .l)
  | .movDM => .mov (.reg .d) .mem
  | .movDA => .mov (.reg .d) (.reg .a)
  | .movEB => .mov (.reg .e) (.reg .b)
  | .movEC => .mov (.reg .e) (.reg .c)
  | .movED => .mov (.reg .e) (.reg .d)
  | .movEE => .mov (.reg .e) (.reg .e)
  | .movEH => .mov (.reg .e) (.reg .h)
  | .movEL => .mov (.reg .e) (.reg .l)
  | .movEM => .mov (.reg .e) .mem
  | .movEA => .mov (.reg .e) (.reg .a)
  | .movHB => .mov (.reg .h) (.reg .b)
  | .movHC => .mov (.reg .h) (.reg .c)
  | .movHD => .mov (.reg .h) (.reg .d)
  | .movHE => .mov (.reg .h) (.reg .e)
  | .movHH => .mov (.reg .h) (.reg .h)
  | .movHL => .mov (.reg .h) (.reg .l)
  | .movHM => .mov (.reg .h) .mem
  | .movHA => .mov (.reg .h) (.reg .a)
  | .movLB => .mov (.reg .l) (.reg .b)
  | .movLC => .mov (.reg .l) (.reg .c)
  | .movLD => .mov (.reg .l) (.reg .d)
  | .movLE => .mov (.reg .l) (.reg .e)
  | .movLH => .mov (.reg .l) (.reg .h)
  | .movLL => .mov (.reg .l) (.reg .l)
  | .movLM => .mov (.reg .l) .mem
  | .movLA => .mov (.reg .l) (.reg .a)
  | .movMB => .mov .mem (.reg .b)
  | .movMC => .mov .mem (.reg .c)
  | .movMD => .mov .mem (.reg .d)
  | .movME => .mov .mem (.reg .e)
  | .movMH => .mov .mem (.reg .h)
  | .movML => .mov .mem (.reg .l)
  | .hlt => .hlt
  | .movMA => .mov .mem (.reg .a)
  | .movAB => .mov (.reg .a) (.reg .b)
  | .movAC => .mov (.reg .a) (.reg .c)
  | .movAD => .mov (.reg .a) (.reg .d)
  | .movAE => .mov (.reg .a) (.reg .e)
  | .movAH => .mov (.reg .a) (.reg .h)
  | .movAL => .mov (.reg .a) (.reg .l)
  | .movAM => .mov (.reg .a) .mem
  | .movAA => .mov (.reg .a) (.reg .a)
  | .addB => .alu .add (.reg .b)
  | .addC => .alu .add (.reg .c)
  | .addD => .alu .add (.reg .d)
  | .addE => .alu .add (.reg .e)
  | .addH => .alu .add (.reg .h)
  | .addL => .alu .add (.reg .l)
  | .addM => .alu .add .mem
  | .addA => .alu .add (.reg .a)
  | .adcB => .alu .adc (.reg .b)
  | .adcC => .alu .adc (.reg .c)
  | .adcD => .alu .adc (.reg .d)
  | .adcE => .alu .adc (.reg .e)
  | .adcH => .alu .adc (.reg .h)
  | .adcL => .alu .adc (.reg .l)
  | .adcM => .alu .adc .mem
  | .adcA => .alu .adc (.reg .a)
  | .subB => .alu .sub (.reg .b)
  | .subC => .alu .sub (.reg .c)
  | .subD => .alu .sub (.reg .d)
  | .subE => .alu .sub (.reg .e)
  | .subH => .alu .sub (.reg .h)
  | .subL => .alu .sub (.reg .l)
  | .subM => .alu .sub .mem
  | .subA => .alu .sub (.reg .a)
  | .sbbB => .alu .sbb (.reg .b)
  | .sbbC => .alu .sbb (.reg .c)
  | .sbbD => .alu .sbb (.reg .d)
  | .sbbE => .alu .sbb (.reg .e)
  | .sbbH => .alu .sbb (.reg .h)
  | .sbbL => .alu .sbb (.reg .l)
  | .sbbM => .alu .sbb .mem
  | .sbbA => .alu .sbb (.reg .a)
  | .anaB => .alu .ana (.reg .b)
  | .anaC => .alu .ana (.reg .c)
  | .anaD => .alu .ana (.reg .d)
  | .anaE => .alu .ana (.reg .e)
  | .anaH => .alu .ana (.reg .h)
  | .anaL => .alu .ana (.reg .l)
  | .anaM => .alu .ana .mem
  | .anaA => .alu .ana (.reg .a)
  | .xraB => .alu .xra (.reg .b)
  | .xraC => .alu .xra (.reg .c)
  | .xraD => .alu .xra (.reg .d)
  | .xraE => .alu .xra (.reg .e)
  | .xraH => .alu .xra (.reg .h)
  | .xraL => .alu .xra (.reg .l)
  | .xraM => .alu .xra .mem
  | .xraA => .alu .xra (.reg .a)
  | .oraB => .alu .ora (.reg .b)
  | .oraC => .alu .ora (.reg .c)
  | .oraD => .alu .ora (.reg .d)
  | .oraE => .alu .ora (.reg .e)
  | .oraH => .alu .ora (.reg .h)
  | .oraL => .alu .ora (.reg .l)
  | .oraM => .alu .ora .mem
  | .oraA => .alu .ora (.reg .a)
  | .cmpB => .alu .cmp (.reg .b)
  | .cmpC => .alu .cmp (.reg .c)
  | .cmpD => .alu .cmp (.reg .d)
  | .cmpE => .alu .cmp (.reg .e)
  | .cmpH => .alu .cmp (.reg .h)
  | .cmpL => .alu .cmp (.reg .l)
  | .cmpM => .alu .cmp .mem
  | .cmpA => .alu .cmp (.reg .a)
  | .rnz => .rcc .nz
  | .popB => .pop .bc
  | .jnz a16 => .jcc .nz a16
  | .jmp a16 => .jmp a16
  | .cnz a16 => .ccc .nz a16
  | .pushB => .push .bc
  | .adi d8 => .aluImm .add d8
  | .rst0 => .rst 0
  | .rz => .rcc .z
  | .ret => .ret
  | .jz a16 => .jcc .z a16
  | .cz a16 => .ccc .z a16
  | .call a16 => .call a16
  | .aci d8 => .aluImm .adc d8
  | .rst1 => .rst 1
  | .rnc => .rcc .nc
  | .popD => .pop .de
  | .jnc a16 => .jcc .nc a16
  | .outPort p8 => .outPort p8
  | .cnc a16 => .ccc .nc a16
  | .pushD => .push .de
  | .sui d8 => .aluImm .sub d8
  | .rst2 => .rst 2
  | .rc => .rcc .c
  | .jc a16 => .jcc .c a16
  | .inPort p8 => .inPort p8
  | .cc a16 => .ccc .c a16
  | .sbi d8 => .aluImm .sbb d8
  | .rst3 => .rst 3
  | .rpo => .rcc .po
  | .popH => .pop .hl
  | .jpo a16 => .jcc .po a16
  | .xthl => .xthl
  | .cpo a16 => .ccc .po a16
  | .pushH => .push .hl
  | .ani d8 => .aluImm .ana d8
  | .rst4 => .rst 4
  | .rpe => .rcc .pe
  | .pchl => .pchl
  | .jpe a16 => .jcc .pe a16
  | .xchg => .xchg
  | .cpe a16 => .ccc .pe a16
  | .xri d8 => .aluImm .xra d8
  | .rst5 => .rst 5
  | .rp => .rcc .p
  | .popPsw => .popPsw
  | .jp a16 => .jcc .p a16
  | .di => .di
  | .cp a16 => .ccc .p a16
  | .pushPsw => .pushPsw
  | .ori d8 => .aluImm .ora d8
  | .rst6 => .rst 6
  | .rm => .rcc .m
  | .sphl => .sphl
  | .jm a16 => .jcc .m a16
  | .ei => .ei
  | .cm a16 => .ccc .m a16
  | .cpi d8 => .aluImm .cmp d8
  | .rst7 => .rst 7
  | .unsupported op => .unsupported op

/-- A byte made of the three fields `op[7:6]`, `op[5:3]`, `op[2:0]` (R91). -/
def octal (q : BitVec 2) (y z : BitVec 3) : Byte := q ++ (y ++ z)

/-- A byte made of the fields `op[7:6]`, `op[5:4]`, `op[3:0]` (R91). -/
def pairByte (q p : BitVec 2) (z : BitVec 4) : Byte := q ++ (p ++ z)

/-- The opcode byte of a family with its fields, from the patterns of R110. -/
def Form.opcode : Form → Byte
  | .mov d s => octal 0b01 d.code s.code
  | .mvi d _ => octal 0b00 d.code 0b110
  | .lxi p _ => pairByte 0b00 p.code 0b0001
  | .lda _ => 0x3A
  | .sta _ => 0x32
  | .lhld _ => 0x2A
  | .shld _ => 0x22
  | .ldax p => pairByte 0b00 (0#1 ++ p.code) 0b1010
  | .stax p => pairByte 0b00 (0#1 ++ p.code) 0b0010
  | .xchg => 0xEB
  | .alu o s => octal 0b10 o.code s.code
  | .aluImm o _ => octal 0b11 o.code 0b110
  | .inr o => octal 0b00 o.code 0b100
  | .dcr o => octal 0b00 o.code 0b101
  | .inx p => pairByte 0b00 p.code 0b0011
  | .dcx p => pairByte 0b00 p.code 0b1011
  | .dad p => pairByte 0b00 p.code 0b1001
  | .daa => 0x27
  | .rlc => 0x07
  | .rrc => 0x0F
  | .ral => 0x17
  | .rar => 0x1F
  | .cma => 0x2F
  | .cmc => 0x3F
  | .stc => 0x37
  | .jmp _ => 0xC3
  | .jcc cc _ => octal 0b11 cc.code 0b010
  | .call _ => 0xCD
  | .ccc cc _ => octal 0b11 cc.code 0b100
  | .ret => 0xC9
  | .rcc cc => octal 0b11 cc.code 0b000
  | .rst n => octal 0b11 n 0b111
  | .pchl => 0xE9
  | .push p => pairByte 0b11 p.code 0b0101
  | .pop p => pairByte 0b11 p.code 0b0001
  | .pushPsw => 0xF5
  | .popPsw => 0xF1
  | .xthl => 0xE3
  | .sphl => 0xF9
  | .inPort _ => 0xDB
  | .outPort _ => 0xD3
  | .ei => 0xFB
  | .di => 0xF3
  | .hlt => 0x76
  | .nop => 0x00
  | .unsupported op => op

/-- The bytes after the opcode byte: none, `d8` or `p8`, or low byte then high byte (R90, R97). -/
def Form.operandBytes : Form → List Byte
  | .mov _ _ => []
  | .mvi _ d8 => [d8]
  | .lxi _ d16 => [loByte d16, hiByte d16]
  | .lda a16 => [loByte a16, hiByte a16]
  | .sta a16 => [loByte a16, hiByte a16]
  | .lhld a16 => [loByte a16, hiByte a16]
  | .shld a16 => [loByte a16, hiByte a16]
  | .ldax _ => []
  | .stax _ => []
  | .xchg => []
  | .alu _ _ => []
  | .aluImm _ d8 => [d8]
  | .inr _ => []
  | .dcr _ => []
  | .inx _ => []
  | .dcx _ => []
  | .dad _ => []
  | .daa => []
  | .rlc => []
  | .rrc => []
  | .ral => []
  | .rar => []
  | .cma => []
  | .cmc => []
  | .stc => []
  | .jmp a16 => [loByte a16, hiByte a16]
  | .jcc _ a16 => [loByte a16, hiByte a16]
  | .call a16 => [loByte a16, hiByte a16]
  | .ccc _ a16 => [loByte a16, hiByte a16]
  | .ret => []
  | .rcc _ => []
  | .rst _ => []
  | .pchl => []
  | .push _ => []
  | .pop _ => []
  | .pushPsw => []
  | .popPsw => []
  | .xthl => []
  | .sphl => []
  | .inPort p8 => [p8]
  | .outPort p8 => [p8]
  | .ei => []
  | .di => []
  | .hlt => []
  | .nop => []
  | .unsupported _ => []

/-- The opcode byte of an instruction. -/
def Instr.opcode (i : Instr) : Byte := i.form.opcode

/-- The bytes of an instruction, opcode byte first. -/
def encode (i : Instr) : List Byte := i.opcode :: i.form.operandBytes

/-- The length in bytes by the opcode byte alone (R105); an unsupported byte has none, written 0 (log 18). -/
def opcodeLength (op : Byte) : Nat :=
  if unsupportedBytes.contains op then 0
  else if [0x01, 0x11, 0x21, 0x31, 0x22, 0x2A, 0x32, 0x3A, 0xC3, 0xCD,
      0xC2, 0xCA, 0xD2, 0xDA, 0xE2, 0xEA, 0xF2, 0xFA,
      0xC4, 0xCC, 0xD4, 0xDC, 0xE4, 0xEC, 0xF4, 0xFC].contains op then 3
  else if [0x06, 0x0E, 0x16, 0x1E, 0x26, 0x2E, 0x36, 0x3E,
      0xC6, 0xCE, 0xD6, 0xDE, 0xE6, 0xEE, 0xF6, 0xFE, 0xD3, 0xDB].contains op then 2
  else 1

/-- How far the PC moves past an instruction (10_state.md R26); not at all past a byte without one (60_exceptions.md R241). -/
def Instr.length : Instr → Nat
  | .unsupported _ => 0
  | i => opcodeLength i.opcode

/-! ## Decoding a list of bytes -/

/-- Why a list of bytes cannot be decoded. -/
inductive DecodeError where
  /-- There is no byte. -/
  | empty
  /-- The opcode byte needs operand bytes that are not there. -/
  | truncated (opcode : Byte)
deriving DecidableEq, Repr

/-- How many bytes an encoding starting with `op` takes up: a byte without an instruction stands alone. -/
def encodedLength (op : Byte) : Nat := max 1 (opcodeLength op)

/-- Decodes the instruction at the head of a list of bytes and gives the bytes after it. -/
def decode : List Byte → Except DecodeError (Instr × List Byte)
  | [] => .error .empty
  | op :: rest =>
    if rest.length + 1 < encodedLength op then .error (.truncated op)
    else .ok (decodeBytes op (rest.getD 0 0) (rest.getD 1 0), rest.drop (encodedLength op - 1))

/-- The byte at bits `8k+7 .. 8k` of a number. -/
def byteOfNat (w k : Nat) : Byte := BitVec.ofNat 8 (w / 256 ^ k)

/-- The three bytes of an instruction given as a number, first byte in the lowest bits, bits from `nbits` up zero. -/
def tableBytes (nbits w : Nat) : List Byte :=
  [byteOfNat (w % 2 ^ nbits) 0, byteOfNat (w % 2 ^ nbits) 1, byteOfNat (w % 2 ^ nbits) 2]

/-- The instruction the decoder reads from the bits of a row of spec/opcode_table.json. -/
def decodeTableWord (nbits w : Nat) : Option Instr :=
  match decode (tableBytes nbits w) with
  | .ok (i, _) => some i
  | .error _ => none

end Sys2Proof
end

