-- ==== Sys2Proof/Machine/Params.lean ====
section
/-! DEFINITION. The spec's default parameters (00_scope.md R8 to R11), all of them "[from general knowledge, not in source]". -/

namespace Sys2Proof

/-- `HalfBudget = floor(floor(CyclesPerSecond / FramesPerSecond) / 2)` (R9). -/
def halfBudgetOf (cyclesPerSecond framesPerSecond : Nat) : Nat :=
  cyclesPerSecond / framesPerSecond / 2

/-- The defaults of R8 to R11 in one place. -/
def Config.platform : Config where
  programRegionSize := 0x2000
  romWritePolicy := .apply
  videoBase := 0x2400
  videoSize := 0x1C00
  halfBudget := halfBudgetOf 2000000 60
  midVector := 1
  endVector := 2
  haltIdleCycles := 4
  cycleOverrides := []
  disabledOpcodes := []
  inputPorts := [0, 1, 2]
  shiftReadPort := 3
  shiftAmountPort := 2
  shiftDataPort := 4
  soundMask := [(3, 0x0F), (5, 0x1F)]

end Sys2Proof
end

