-- ==== Sys2Proof/Machine/State.lean ====
section
/-! DEFINITION. The state of the machine (10_state.md R20 to R47), how a step can stop, and the state after reset (R50). -/

namespace Sys2Proof.Machine

/-- Bytes by key, as (key, byte) pairs in one canonical form (see `Cells.wf` in Machine/Ops.lean). -/
abbrev Cells := List Host.Cell

/-- The 65,536 bytes of memory (20_memory.md R60), by address. -/
abbrev Memory := Cells

/-- The seven general registers (R20). -/
structure Regs where
  a : Byte
  b : Byte
  c : Byte
  d : Byte
  e : Byte
  h : Byte
  l : Byte
deriving DecidableEq, Repr

/-- The five flags (R28): sign, zero, auxiliary carry, parity, carry. -/
structure Flags where
  s : Bool
  z : Bool
  ac : Bool
  p : Bool
  cy : Bool
deriving DecidableEq, Repr

/-- The fatal errors that the fault status `fault` records (R39; 60_exceptions.md R240 to R242). -/
inductive FatalError where
  /-- A step fetched an opcode byte that has no instruction: its address and the byte (R241). -/
  | unsupportedOpcode (addr : Word) (opcode : Byte)
  /-- "it exists as a name only" (R242): nothing raises it, since memory is exactly 65,536 bytes (log 17). -/
  | addressOutOfRange
deriving DecidableEq, Repr

/-- Which half of the frame is running (R46). -/
inductive Phase where
  | first | second
deriving DecidableEq, Repr

/-- Whether the scheduler loop is still being invoked (R46). -/
inductive RunStatus where
  | running | stopped
deriving DecidableEq, Repr

/-- A sound event (R44): bit `bit` of sound port `port` rose. -/
structure SoundEvent where
  port : Byte
  bit : Fin 8
deriving DecidableEq, Repr

/-- What the host gives at one yield (R275): the exit request, and the byte of each input port by port number. The model's own
type (log 8). -/
structure HostSample where
  exit : Bool
  inputs : Cells
deriving DecidableEq, Repr

/-- The whole state. `config`, `hostQueue`, `yields` and `soundOutput` are the model's own fields (log 1, log 8, log 21);
every other is the spec's. -/
structure State where
  /-- `A B C D E H L` (R20). -/
  regs : Regs
  /-- `S Z AC P CY` (R28). -/
  flags : Flags
  /-- `SP` (R27). -/
  sp : Word
  /-- `PC` (R25). -/
  pc : Word
  /-- `IE` (R36). -/
  ie : Bool
  /-- `pending` (R37). -/
  pending : Option (BitVec 3)
  /-- `halted` (R38). -/
  halted : Bool
  /-- `fault` (R39). -/
  fault : Option FatalError
  /-- `shift_register` (R40). -/
  shiftRegister : Word
  /-- `shift_amount` (R41). -/
  shiftAmount : BitVec 3
  /-- `input[p]` by port number (R42; log 20). -/
  input : Cells
  /-- `sound_latch[p]` by port number (R43; log 20). -/
  soundLatch : Cells
  /-- `sound_events`, oldest first (R44). -/
  soundEvents : List SoundEvent
  /-- What the audio collaborator has received at the yields so far, oldest first (R44, R275, R290; log 21). -/
  soundOutput : List SoundEvent
  /-- `total_cycles` (R45). -/
  totalCycles : Nat
  /-- `half_cycles` (R46). -/
  halfCycles : Nat
  /-- `phase` (R46). -/
  phase : Phase
  /-- `run` (R46). -/
  run : RunStatus
  /-- `mem` (R47, R60). -/
  mem : Memory
  /-- The run's parameters, which nothing writes (log 1). -/
  config : Config
  /-- What the host will give at the coming yields, next first (log 8). -/
  hostQueue : List HostSample
  /-- How many yields have happened (log 8). -/
  yields : Nat
deriving DecidableEq, Repr

/-- Why a step has no next state. -/
inductive Fault where
  /-- Raised by `step` in a state whose fault status is already set: "no step or scheduler action ever happens again" (R240). Safe: the
  machine takes no step there either (log 6). -/
  | fatal (e : FatalError)
  /-- Raised by `step` in a state whose run is stopped: the clean end, "no further step, no further event" (R276). Safe (log 7). -/
  | runStopped
deriving DecidableEq, Repr

/-- Why an instruction has no meaning in the model. -/
inductive Refusal where
  /-- Raised by an arm of `exec` that has no meaning yet; safe. No arm does. -/
  | notModelled (mnemonic : String)
deriving DecidableEq, Repr

/-- What a step or an instruction answers. -/
abbrev Result := Host.Outcome State Fault Refusal

/-- The state after reset (R50, 70_reset_and_hazards.md R300, R301) with the default parameters, nothing loaded, and every draw of R50 at
zero (DESIGN CHOICE, log 3, log 4). `State.powerOn` in Machine/Boot.lean gives the reset state for every image and every draw. -/
def State.reset : State where
  regs := { a := 0, b := 0, c := 0, d := 0, e := 0, h := 0, l := 0 }
  flags := { s := false, z := false, ac := false, p := false, cy := false }
  sp := 0
  pc := 0
  ie := false
  pending := none
  halted := false
  fault := none
  shiftRegister := 0
  shiftAmount := 0
  input := []
  soundLatch := []
  soundEvents := []
  soundOutput := []
  totalCycles := 0
  halfCycles := 0
  phase := .first
  run := .running
  mem := []
  config := Config.platform
  hostQueue := []
  yields := 0

end Sys2Proof.Machine
end

