-- ==== Sys2Proof/Machine/Flags.lean ====
section
/-! DEFINITION. Every flag computation of the spec: the flag rules R29 to R35, the shared routines R140, R141 and R170, decimal adjust
R161, the flag byte R35, and the conditions R95. -/

namespace Sys2Proof.Machine

/-- "1 when the number of 1 bits among v[7:0] is even" (R17, R31). -/
def parity (v : Byte) : Bool :=
  ([0, 1, 2, 3, 4, 5, 6, 7].countP (fun i => v.getLsbD i)) % 2 == 0

/-- `v[3:0]`, as a natural number. -/
def lowNibble (v : Byte) : Nat := v.toNat % 16

/-- `v[7:4]`, as a natural number. -/
def highNibble (v : Byte) : Nat := v.toNat / 16

/-- A carry as a number. -/
def bitNat (b : Bool) : Nat := if b then 1 else 0

/-- `szp(v)`: Z, S and P from a result byte, AC and CY as they were (R17, R29 to R31). -/
def Flags.szp (f : Flags) (v : Byte) : Flags :=
  { f with z := v == 0, s := v.getLsbD 7, p := parity v }

/-- A result byte with the flags that go with it. -/
structure AluResult where
  value : Byte
  flags : Flags
deriving DecidableEq, Repr

/-- The flags whose S, Z and P come from `v`, with the given AC and CY. -/
def Flags.ofResult (v : Byte) (ac cy : Bool) : Flags :=
  { s := v.getLsbD 7, z := v == 0, ac := ac, p := parity v, cy := cy }

/-- `add8(a, b, c)` (R140): the sum in naturals, narrowed. -/
def add8 (a b : Byte) (c : Bool) : AluResult :=
  let sum := a.toNat + b.toNat + bitNat c
  let res := BitVec.ofNat 8 sum
  { value := res
    flags := .ofResult res (decide (lowNibble a + lowNibble b + bitNat c > 0xF)) (decide (sum > 0xFF)) }

/-- `sub8(a, b, c)` (R141): CY is the borrow, AC the nibble carry of adding the complement. -/
def sub8 (a b : Byte) (c : Bool) : AluResult :=
  let res := BitVec.ofInt 8 ((a.toNat : Int) - b.toNat - bitNat c)
  { value := res
    flags := .ofResult res (decide (lowNibble a + (15 - lowNibble b) + (1 - bitNat c) > 0xF))
      (decide (a.toNat < b.toNat + bitNat c)) }

/-- `logic(res)` (R170): Z, S, P from the result, CY and AC cleared. -/
def logicFlags (res : Byte) : Flags := .ofResult res false false

/-- INR (R154): the incremented byte; Z, S, P from it, AC the nibble carry, CY as it was. -/
def inc8 (v : Byte) (f : Flags) : AluResult :=
  { value := v + 1, flags := { f.szp (v + 1) with ac := lowNibble v == 0xF } }

/-- DCR (R156): the decremented byte; Z, S, P from it, AC 1 unless the low nibble was 0, CY as it was. -/
def dec8 (v : Byte) (f : Flags) : AluResult :=
  { value := v - 1, flags := { f.szp (v - 1) with ac := lowNibble v != 0 } }

/-- Whether DAA corrects the low nibble (R161). -/
def daaLow (a : Byte) (f : Flags) : Bool := decide (lowNibble a > 9) || f.ac

/-- Whether DAA corrects the high nibble (R161). -/
def daaHigh (a : Byte) (f : Flags) : Bool :=
  decide (highNibble a > 9) || f.cy || (decide (highNibble a ≥ 9) && decide (lowNibble a > 9))

/-- DAA (R161): one addition of the correction, CY set by the high correction and never cleared. -/
def daa8 (a : Byte) (f : Flags) : AluResult :=
  let corr := (if daaLow a f then 0x06 else 0x00) + (if daaHigh a f then 0x60 else 0x00)
  let res := BitVec.ofNat 8 (a.toNat + corr)
  { value := res
    flags := .ofResult res (decide (lowNibble a + corr % 16 > 0xF)) (f.cy || daaHigh a f) }

/-- A flag as one bit. -/
def bit1 (b : Bool) : BitVec 1 := BitVec.ofBool b

/-- The flag byte `{S, Z, 0, AC, 0, P, 1, CY}`, bit 7 first (R35, R224). -/
def Flags.pack (f : Flags) : Byte :=
  bit1 f.s ++ (bit1 f.z ++ (0#1 ++ (bit1 f.ac ++ (0#1 ++ (bit1 f.p ++ (1#1 ++ bit1 f.cy))))))

/-- The flags of a popped byte; bits 5, 3 and 1 are ignored (R35, R225). -/
def Flags.unpack (v : Byte) : Flags :=
  { s := v.getLsbD 7, z := v.getLsbD 6, ac := v.getLsbD 4, p := v.getLsbD 2, cy := v.getLsbD 0 }

/-- `cond(ccc)` (R95). -/
def condHolds (cc : Cond) (f : Flags) : Bool :=
  match cc with
  | .nz => !f.z
  | .z => f.z
  | .nc => !f.cy
  | .c => f.cy
  | .po => !f.p
  | .pe => f.p
  | .p => !f.s
  | .m => f.s

end Sys2Proof.Machine
end

