-- ==== Sys2Proof/Machine/Cycles.lean ====
section
/-! DEFINITION. The cycle table (70_reset_and_hazards.md R320), a parameter of the run (00_scope.md R9). -/

namespace Sys2Proof.Machine

/-- The counts of R320 by opcode byte, sixteen a row; a conditional's count is the one for "not taken"; a byte without an instruction
has no count, written 0. -/
def cycleTable : List Nat :=
  [4, 10, 7, 5, 5, 5, 7, 4, 0, 10, 7, 5, 5, 5, 7, 4]
    ++ [0, 10, 7, 5, 5, 5, 7, 4, 0, 10, 7, 5, 5, 5, 7, 4]
    ++ [0, 10, 16, 5, 5, 5, 7, 4, 0, 10, 16, 5, 5, 5, 7, 4]
    ++ [0, 10, 13, 5, 10, 10, 10, 4, 0, 10, 13, 5, 5, 5, 7, 4]
    ++ [5, 5, 5, 5, 5, 5, 7, 5, 5, 5, 5, 5, 5, 5, 7, 5]
    ++ [5, 5, 5, 5, 5, 5, 7, 5, 5, 5, 5, 5, 5, 5, 7, 5]
    ++ [5, 5, 5, 5, 5, 5, 7, 5, 5, 5, 5, 5, 5, 5, 7, 5]
    ++ [7, 7, 7, 7, 7, 7, 7, 7, 5, 5, 5, 5, 5, 5, 7, 5]
    ++ [4, 4, 4, 4, 4, 4, 7, 4, 4, 4, 4, 4, 4, 4, 7, 4]
    ++ [4, 4, 4, 4, 4, 4, 7, 4, 4, 4, 4, 4, 4, 4, 7, 4]
    ++ [4, 4, 4, 4, 4, 4, 7, 4, 4, 4, 4, 4, 4, 4, 7, 4]
    ++ [4, 4, 4, 4, 4, 4, 7, 4, 4, 4, 4, 4, 4, 4, 7, 4]
    ++ [5, 10, 10, 10, 11, 11, 7, 11, 5, 10, 10, 0, 11, 17, 7, 11]
    ++ [5, 10, 10, 10, 11, 11, 7, 11, 5, 0, 10, 10, 11, 0, 7, 11]
    ++ [5, 10, 10, 18, 11, 11, 7, 11, 5, 5, 10, 4, 11, 0, 7, 11]
    ++ [5, 10, 10, 4, 11, 11, 7, 11, 5, 5, 10, 4, 11, 0, 7, 11]

/-- Conditional calls, `11ccc100` (R95, R110). -/
def isCondCall (op : Byte) : Bool := op.extractLsb' 6 2 == 3 && op.extractLsb' 0 3 == 4

/-- Conditional returns, `11ccc000` (R95, R110). -/
def isCondReturn (op : Byte) : Bool := op.extractLsb' 6 2 == 3 && op.extractLsb' 0 3 == 0

/-- `Cycles(opcode, taken)` with the default table: Ccc 11 or 17, Rcc 5 or 11, Jcc 10 either way (R320). -/
def defaultCycles (op : Byte) (taken : Bool) : Nat :=
  if taken && isCondCall op then 17
  else if taken && isCondReturn op then 11
  else cycleTable.getD op.toNat 0

/-- `Cycles(opcode, taken)` of a run (R9; log 10). -/
def cyclesOf (c : Config) (op : Byte) (taken : Bool) : Nat :=
  match c.cycleOverrides.find? (fun e => e.opcode == op) with
  | some e => if taken then e.taken else e.notTaken
  | none => defaultCycles op taken

/-- Whether an instruction's condition is true; false for an instruction without one (R95, R320). -/
def conditionTaken (i : Instr) (f : Flags) : Bool :=
  match i.form with
  | .jcc cc _ => condHolds cc f
  | .ccc cc _ => condHolds cc f
  | .rcc cc => condHolds cc f
  | .mov _ _ | .mvi _ _ | .lxi _ _ | .lda _ | .sta _ | .lhld _ | .shld _ | .ldax _ | .stax _ | .xchg | .alu _ _
  | .aluImm _ _ | .inr _ | .dcr _ | .inx _ | .dcx _ | .dad _ | .daa | .rlc | .rrc | .ral | .rar | .cma | .cmc | .stc
  | .jmp _ | .call _ | .ret | .rst _ | .pchl | .push _ | .pop _ | .pushPsw | .popPsw | .xthl | .sphl | .inPort _
  | .outPort _ | .ei | .di | .hlt | .nop | .unsupported _ => false

/-- `Cycles(RST)` for the restart of vector `v`: what an interrupt-entry step returns (60_exceptions.md R250, R253; log 10). -/
def entryCycles (c : Config) (v : BitVec 3) : Nat := cyclesOf c (Form.rst v).opcode false

end Sys2Proof.Machine
end

