-- ==== Sys2Proof/Machine/Ops.lean ====
section
/-! DEFINITION. The named operations over cells, memory, registers and the stack; interrupt entry and the return from it; the fatal error;
and the request of an interrupt. -/

namespace Sys2Proof.Machine

/-! ## Cells: bytes by key -/

/-- What a key that is not listed reads as. For memory the spec gives a draw (R50, U6): DESIGN CHOICE 0x00 (log 4); for the sound latches
it is the reset value 0 (R50); for the inputs it is the first sample, a draw (log 3). -/
def Cells.unlisted : Byte := 0

/-- The byte at a key. -/
def Cells.get : Cells → Nat → Byte
  | [], _ => Cells.unlisted
  | (k, v) :: t, a => if a < k then Cells.unlisted else if a = k then v else Cells.get t a

/-- Writes the byte at a key and keeps the canonical form. (The `dropWhile` does nothing on a canonical list; it makes "reads back what
was written" true of every list.) -/
def Cells.set : Cells → Nat → Byte → Cells
  | [], a, v => if v = Cells.unlisted then [] else [(a, v)]
  | (k, w) :: t, a, v =>
    if a < k then
      if v = Cells.unlisted then (k, w) :: t else (a, v) :: (k, w) :: t
    else if a = k then
      if v = Cells.unlisted then t.dropWhile (fun c => decide (c.1 ≤ a)) else (a, v) :: t
    else (k, w) :: Cells.set t a v

/-- The canonical form: keys below `bound`, strictly rising, and no entry equal to what an unlisted key reads as. -/
def Cells.wf (bound : Nat) : Cells → Bool
  | [] => true
  | (k, v) :: t =>
    decide (k < bound) && decide (v ≠ Cells.unlisted) && t.all (fun c => decide (k < c.1)) && Cells.wf bound t

/-- The canonical form of memory: 16-bit addresses (R60). -/
def Memory.wf (m : Memory) : Bool := Cells.wf 65536 m

/-- The canonical form of a map from 8-bit port numbers (R61). -/
def Cells.portWf (m : Cells) : Bool := Cells.wf 256 m

/-! ## Writing one field -/

/-- Reads a register (R14). -/
def Regs.get (r : Regs) : Reg → Byte
  | .a => r.a | .b => r.b | .c => r.c | .d => r.d | .e => r.e | .h => r.h | .l => r.l

/-- Writes a register (R14). -/
def Regs.set (r : Regs) (x : Reg) (v : Byte) : Regs :=
  match x with
  | .a => { r with a := v } | .b => { r with b := v } | .c => { r with c := v } | .d => { r with d := v }
  | .e => { r with e := v } | .h => { r with h := v } | .l => { r with l := v }

/-- `r[c]` for a register code (R14). -/
def State.reg (s : State) (r : Reg) : Byte := s.regs.get r

/-- `r[c] <- v` for a register code (R14). -/
def State.setReg (s : State) (r : Reg) (v : Byte) : State := { s with regs := s.regs.set r v }

def State.setFlags (s : State) (f : Flags) : State := { s with flags := f }

def State.setSp (s : State) (v : Word) : State := { s with sp := v }

def State.setPc (s : State) (v : Word) : State := { s with pc := v }

def State.setIe (s : State) (b : Bool) : State := { s with ie := b }

def State.setPending (s : State) (v : Option (BitVec 3)) : State := { s with pending := v }

def State.setHalted (s : State) (b : Bool) : State := { s with halted := b }

def State.setFault (s : State) (e : Option FatalError) : State := { s with fault := e }

def State.setMem (s : State) (m : Memory) : State := { s with mem := m }

/-! ## Memory (20_memory.md R64 to R68) -/

/-- `MemRead(addr, 1)` (R64). -/
def State.read8 (s : State) (a : Word) : Byte := Cells.get s.mem a.toNat

/-- `MemRead(addr, 2)` (R65): the byte at the next address, modulo 2^16, is the high one. -/
def State.read16 (s : State) (a : Word) : Word := word16 (s.read8 (a + 1)) (s.read8 a)

/-- Whether a write to an address is dropped: it is in the program region and `RomWritePolicy = ignore` (R63, R66). -/
def dropsWrite (c : Config) (a : Word) : Bool :=
  match c.romWritePolicy with
  | .apply => false
  | .ignore => decide (a.toNat < c.programRegionSize)

/-- `MemWrite(addr, 1, v)` (R66). -/
def State.write8 (s : State) (a : Word) (v : Byte) : State :=
  if dropsWrite s.config a then s else s.setMem (Cells.set s.mem a.toNat v)

/-- `MemWrite(addr, 2, v)` (R67): low byte first, each byte checked by itself. -/
def State.write16 (s : State) (a v : Word) : State := (s.write8 a (loByte v)).write8 (a + 1) (hiByte v)

/-! ## The stack (44_stack_io_control.md R220, R221) -/

/-- `push16(v)` (R220). -/
def State.push16 (s : State) (v : Word) : State :=
  ((s.write8 (s.sp - 1) (hiByte v)).write8 (s.sp - 2) (loByte v)).setSp (s.sp - 2)

/-- The value `pop16()` returns (R221). -/
def State.popValue (s : State) : Word := word16 (s.read8 (s.sp + 1)) (s.read8 s.sp)

/-- What `pop16()` does to the state (R221). -/
def State.popped (s : State) : State := s.setSp (s.sp + 2)

/-! ## Control transfer, interrupt entry and return, the fatal error -/

/-- `8 * n`, the restart vector (R74, R99). -/
def vectorAddress (n : BitVec 3) : Word := BitVec.ofNat 16 (8 * n.toNat)

/-- `push16(PC); PC <- target`: what CALL, a taken Ccc, RST and interrupt entry share (R202, R206, R253). -/
def State.callTo (s : State) (target : Word) : State := (s.push16 s.pc).setPc target

/-- `PC <- pop16()`: RET and a taken Rcc (R204); it is also the only return from a handler, and it restores the saved PC and nothing
else (60_exceptions.md R255). -/
def State.returnFromCall (s : State) : State := s.popped.setPc s.popValue

/-- Interrupt entry (60_exceptions.md R253): `pending <- none; halted <- 0; IE <- 0; push16(PC); PC <- 8 * v`. -/
def State.interruptEntry (s : State) (v : BitVec 3) : State :=
  (((s.setPending none).setHalted false).setIe false).callTo (vectorAddress v)

/-- `raise Fault(kind, info)` (R16, R240): the fault status is set and nothing else changes. -/
def State.raiseFatal (s : State) (e : FatalError) : State := s.setFault (some e)

/-- `RaiseInterrupt(v)` (60_exceptions.md R252): latched if `IE = 1`, lost if not. -/
def State.raiseInterrupt (s : State) (v : BitVec 3) : State := if s.ie then s.setPending (some v) else s

end Sys2Proof.Machine
end

