-- ==== Sys2Proof/Machine/Operands.lean ====
section
/-! DEFINITION. The operand forms: the 8-bit operand of a 3-bit field (10_state.md R21), the register pairs (R22), PSW (R24). -/

namespace Sys2Proof.Machine

/-- `BC` (R22). -/
def State.bc (s : State) : Word := word16 s.regs.b s.regs.c

/-- `DE` (R22). -/
def State.de (s : State) : Word := word16 s.regs.d s.regs.e

/-- `HL` (R22). -/
def State.hl (s : State) : Word := word16 s.regs.h s.regs.l

def State.setBc (s : State) (v : Word) : State := (s.setReg .b (hiByte v)).setReg .c (loByte v)

def State.setDe (s : State) (v : Word) : State := (s.setReg .d (hiByte v)).setReg .e (loByte v)

def State.setHl (s : State) (v : Word) : State := (s.setReg .h (hiByte v)).setReg .l (loByte v)

/-- `r[c]` with code 6 = M: "r[6] means MemRead(HL, 1)" (R21). -/
def State.operand (s : State) : Operand → Byte
  | .reg r => s.reg r
  | .mem => s.read8 s.hl

/-- `r[c] <- v` with code 6 = M: "r[6] <- v means MemWrite(HL, 1, v)" (R21). -/
def State.setOperand (s : State) (o : Operand) (v : Byte) : State :=
  match o with
  | .reg r => s.setReg r v
  | .mem => s.write8 s.hl v

/-- `rp[p]` of LXI, INX, DCX, DAD (R22). -/
def State.pair (s : State) : Pair → Word
  | .bc => s.bc
  | .de => s.de
  | .hl => s.hl
  | .sp => s.sp

/-- `rp[p] <- v` (R22). -/
def State.setPair (s : State) (p : Pair) (v : Word) : State :=
  match p with
  | .bc => s.setBc v
  | .de => s.setDe v
  | .hl => s.setHl v
  | .sp => s.setSp v

/-- The pair a PUSH or POP names (R22). -/
def stackPairOf : StackPair → Pair
  | .bc => .bc
  | .de => .de
  | .hl => .hl

/-- The pair an LDAX or STAX goes through (R22). -/
def indexPairOf : IndexPair → Pair
  | .bc => .bc
  | .de => .de

end Sys2Proof.Machine
end

