-- ==== Sys2Proof/Machine/Arithmetic.lean ====
section
/-! DEFINITION. The arithmetic instructions (41_arithmetic.md R142 to R161) over the shared routines of Machine/Flags.lean. -/

namespace Sys2Proof.Machine

/-- `A <- result` with its five flags. -/
def State.setAcc (s : State) (r : AluResult) : State := (s.setReg .a r.value).setFlags r.flags

/-- `A <- add8(A, v, c)` (R142 to R147). -/
def State.addTo (s : State) (v : Byte) (c : Bool) : State := s.setAcc (add8 (s.reg .a) v c)

/-- `A <- sub8(A, v, c)` (R148 to R153). -/
def State.subFrom (s : State) (v : Byte) (c : Bool) : State := s.setAcc (sub8 (s.reg .a) v c)

/-- INR of a register or of M (R154, R155): the operand is written, then the flags from the result. -/
def State.increment (s : State) (o : Operand) : State :=
  (s.setOperand o (inc8 (s.operand o) s.flags).value).setFlags (inc8 (s.operand o) s.flags).flags

/-- DCR of a register or of M (R156, R157). -/
def State.decrement (s : State) (o : Operand) : State :=
  (s.setOperand o (dec8 (s.operand o) s.flags).value).setFlags (dec8 (s.operand o) s.flags).flags

/-- CY alone is written. -/
def State.setCarry (s : State) (b : Bool) : State := s.setFlags { s.flags with cy := b }

/-- DAD (R160): the sum in naturals, HL its low 16 bits, CY whether it passes 0xFFFF. -/
def State.addToHl (s : State) (v : Word) : State :=
  (s.setHl (BitVec.ofNat 16 (s.hl.toNat + v.toNat))).setCarry (decide (s.hl.toNat + v.toNat > 0xFFFF))

/-- DAA (R161). -/
def State.decimalAdjust (s : State) : State := s.setAcc (daa8 (s.reg .a) s.flags)

/-- ADD B, 0x80 (R142). -/
def execAddB (s : State) : Result := .next (s.addTo (s.operand (.reg .b)) false)

/-- ADD C, 0x81 (R142). -/
def execAddC (s : State) : Result := .next (s.addTo (s.operand (.reg .c)) false)

/-- ADD D, 0x82 (R142). -/
def execAddD (s : State) : Result := .next (s.addTo (s.operand (.reg .d)) false)

/-- ADD E, 0x83 (R142). -/
def execAddE (s : State) : Result := .next (s.addTo (s.operand (.reg .e)) false)

/-- ADD H, 0x84 (R142). -/
def execAddH (s : State) : Result := .next (s.addTo (s.operand (.reg .h)) false)

/-- ADD L, 0x85 (R142). -/
def execAddL (s : State) : Result := .next (s.addTo (s.operand (.reg .l)) false)

/-- ADD A, 0x87 (R142). -/
def execAddA (s : State) : Result := .next (s.addTo (s.operand (.reg .a)) false)

/-- ADD M, 0x86 (R143). -/
def execAddM (s : State) : Result := .next (s.addTo (s.operand .mem) false)

/-- ADI d8, 0xC6 (R144). -/
def execAdi (d8 : Byte) (s : State) : Result := .next (s.addTo d8 false)

/-- ADC B, 0x88 (R145). -/
def execAdcB (s : State) : Result := .next (s.addTo (s.operand (.reg .b)) s.flags.cy)

/-- ADC C, 0x89 (R145). -/
def execAdcC (s : State) : Result := .next (s.addTo (s.operand (.reg .c)) s.flags.cy)

/-- ADC D, 0x8A (R145). -/
def execAdcD (s : State) : Result := .next (s.addTo (s.operand (.reg .d)) s.flags.cy)

/-- ADC E, 0x8B (R145). -/
def execAdcE (s : State) : Result := .next (s.addTo (s.operand (.reg .e)) s.flags.cy)

/-- ADC H, 0x8C (R145). -/
def execAdcH (s : State) : Result := .next (s.addTo (s.operand (.reg .h)) s.flags.cy)

/-- ADC L, 0x8D (R145). -/
def execAdcL (s : State) : Result := .next (s.addTo (s.operand (.reg .l)) s.flags.cy)

/-- ADC A, 0x8F (R145). -/
def execAdcA (s : State) : Result := .next (s.addTo (s.operand (.reg .a)) s.flags.cy)

/-- ADC M, 0x8E (R146). -/
def execAdcM (s : State) : Result := .next (s.addTo (s.operand .mem) s.flags.cy)

/-- ACI d8, 0xCE (R147). -/
def execAci (d8 : Byte) (s : State) : Result := .next (s.addTo d8 s.flags.cy)

/-- SUB B, 0x90 (R148). -/
def execSubB (s : State) : Result := .next (s.subFrom (s.operand (.reg .b)) false)

/-- SUB C, 0x91 (R148). -/
def execSubC (s : State) : Result := .next (s.subFrom (s.operand (.reg .c)) false)

/-- SUB D, 0x92 (R148). -/
def execSubD (s : State) : Result := .next (s.subFrom (s.operand (.reg .d)) false)

/-- SUB E, 0x93 (R148). -/
def execSubE (s : State) : Result := .next (s.subFrom (s.operand (.reg .e)) false)

/-- SUB H, 0x94 (R148). -/
def execSubH (s : State) : Result := .next (s.subFrom (s.operand (.reg .h)) false)

/-- SUB L, 0x95 (R148). -/
def execSubL (s : State) : Result := .next (s.subFrom (s.operand (.reg .l)) false)

/-- SUB A, 0x97 (R148). -/
def execSubA (s : State) : Result := .next (s.subFrom (s.operand (.reg .a)) false)

/-- SUB M, 0x96 (R149). -/
def execSubM (s : State) : Result := .next (s.subFrom (s.operand .mem) false)

/-- SUI d8, 0xD6 (R150). -/
def execSui (d8 : Byte) (s : State) : Result := .next (s.subFrom d8 false)

/-- SBB B, 0x98 (R151). -/
def execSbbB (s : State) : Result := .next (s.subFrom (s.operand (.reg .b)) s.flags.cy)

/-- SBB C, 0x99 (R151). -/
def execSbbC (s : State) : Result := .next (s.subFrom (s.operand (.reg .c)) s.flags.cy)

/-- SBB D, 0x9A (R151). -/
def execSbbD (s : State) : Result := .next (s.subFrom (s.operand (.reg .d)) s.flags.cy)

/-- SBB E, 0x9B (R151). -/
def execSbbE (s : State) : Result := .next (s.subFrom (s.operand (.reg .e)) s.flags.cy)

/-- SBB H, 0x9C (R151). -/
def execSbbH (s : State) : Result := .next (s.subFrom (s.operand (.reg .h)) s.flags.cy)

/-- SBB L, 0x9D (R151). -/
def execSbbL (s : State) : Result := .next (s.subFrom (s.operand (.reg .l)) s.flags.cy)

/-- SBB A, 0x9F (R151). -/
def execSbbA (s : State) : Result := .next (s.subFrom (s.operand (.reg .a)) s.flags.cy)

/-- SBB M, 0x9E (R152). -/
def execSbbM (s : State) : Result := .next (s.subFrom (s.operand .mem) s.flags.cy)

/-- SBI d8, 0xDE (R153). -/
def execSbi (d8 : Byte) (s : State) : Result := .next (s.subFrom d8 s.flags.cy)

/-- INR B, 0x04 (R154). -/
def execInrB (s : State) : Result := .next (s.increment (.reg .b))

/-- INR C, 0x0C (R154). -/
def execInrC (s : State) : Result := .next (s.increment (.reg .c))

/-- INR D, 0x14 (R154). -/
def execInrD (s : State) : Result := .next (s.increment (.reg .d))

/-- INR E, 0x1C (R154). -/
def execInrE (s : State) : Result := .next (s.increment (.reg .e))

/-- INR H, 0x24 (R154). -/
def execInrH (s : State) : Result := .next (s.increment (.reg .h))

/-- INR L, 0x2C (R154). -/
def execInrL (s : State) : Result := .next (s.increment (.reg .l))

/-- INR A, 0x3C (R154). -/
def execInrA (s : State) : Result := .next (s.increment (.reg .a))

/-- INR M, 0x34 (R155). -/
def execInrM (s : State) : Result := .next (s.increment .mem)

/-- DCR B, 0x05 (R156). -/
def execDcrB (s : State) : Result := .next (s.decrement (.reg .b))

/-- DCR C, 0x0D (R156). -/
def execDcrC (s : State) : Result := .next (s.decrement (.reg .c))

/-- DCR D, 0x15 (R156). -/
def execDcrD (s : State) : Result := .next (s.decrement (.reg .d))

/-- DCR E, 0x1D (R156). -/
def execDcrE (s : State) : Result := .next (s.decrement (.reg .e))

/-- DCR H, 0x25 (R156). -/
def execDcrH (s : State) : Result := .next (s.decrement (.reg .h))

/-- DCR L, 0x2D (R156). -/
def execDcrL (s : State) : Result := .next (s.decrement (.reg .l))

/-- DCR A, 0x3D (R156). -/
def execDcrA (s : State) : Result := .next (s.decrement (.reg .a))

/-- DCR M, 0x35 (R157). -/
def execDcrM (s : State) : Result := .next (s.decrement .mem)

/-- INX B, 0x03 (R158). -/
def execInxB (s : State) : Result := .next (s.setPair .bc (s.pair .bc + 1))

/-- INX D, 0x13 (R158). -/
def execInxD (s : State) : Result := .next (s.setPair .de (s.pair .de + 1))

/-- INX H, 0x23 (R158). -/
def execInxH (s : State) : Result := .next (s.setPair .hl (s.pair .hl + 1))

/-- INX SP, 0x33 (R158). -/
def execInxSp (s : State) : Result := .next (s.setPair .sp (s.pair .sp + 1))

/-- DCX B, 0x0B (R159). -/
def execDcxB (s : State) : Result := .next (s.setPair .bc (s.pair .bc - 1))

/-- DCX D, 0x1B (R159). -/
def execDcxD (s : State) : Result := .next (s.setPair .de (s.pair .de - 1))

/-- DCX H, 0x2B (R159). -/
def execDcxH (s : State) : Result := .next (s.setPair .hl (s.pair .hl - 1))

/-- DCX SP, 0x3B (R159). -/
def execDcxSp (s : State) : Result := .next (s.setPair .sp (s.pair .sp - 1))

/-- DAD B, 0x09 (R160). -/
def execDadB (s : State) : Result := .next (s.addToHl (s.pair .bc))

/-- DAD D, 0x19 (R160). -/
def execDadD (s : State) : Result := .next (s.addToHl (s.pair .de))

/-- DAD H, 0x29 (R160). -/
def execDadH (s : State) : Result := .next (s.addToHl (s.pair .hl))

/-- DAD SP, 0x39 (R160). -/
def execDadSp (s : State) : Result := .next (s.addToHl (s.pair .sp))

/-- DAA, 0x27 (R161). -/
def execDaa (s : State) : Result := .next (s.decimalAdjust)

end Sys2Proof.Machine
end

