-- ==== Sys2Proof/Machine/Branch.lean ====
section
/-! DEFINITION. The control transfer instructions (43_branch.md R200 to R207). The PC of the state they are given is already `next`. -/

namespace Sys2Proof.Machine

/-- `if cond(ccc) then <taken>`, else nothing beyond the PC advance (R201, R203, R205). -/
def State.onCondition (s : State) (cc : Cond) (taken : State) : State := if condHolds cc s.flags then taken else s

/-- JMP a16, 0xC3 (R200). -/
def execJmp (a16 : Word) (s : State) : Result := .next (s.setPc a16)

/-- JNZ a16, 0xC2 (R201). -/
def execJnz (a16 : Word) (s : State) : Result := .next (s.onCondition .nz (s.setPc a16))

/-- JZ a16, 0xCA (R201). -/
def execJz (a16 : Word) (s : State) : Result := .next (s.onCondition .z (s.setPc a16))

/-- JNC a16, 0xD2 (R201). -/
def execJnc (a16 : Word) (s : State) : Result := .next (s.onCondition .nc (s.setPc a16))

/-- JC a16, 0xDA (R201). -/
def execJc (a16 : Word) (s : State) : Result := .next (s.onCondition .c (s.setPc a16))

/-- JPO a16, 0xE2 (R201). -/
def execJpo (a16 : Word) (s : State) : Result := .next (s.onCondition .po (s.setPc a16))

/-- JPE a16, 0xEA (R201). -/
def execJpe (a16 : Word) (s : State) : Result := .next (s.onCondition .pe (s.setPc a16))

/-- JP a16, 0xF2 (R201). -/
def execJp (a16 : Word) (s : State) : Result := .next (s.onCondition .p (s.setPc a16))

/-- JM a16, 0xFA (R201). -/
def execJm (a16 : Word) (s : State) : Result := .next (s.onCondition .m (s.setPc a16))

/-- CALL a16, 0xCD (R202). -/
def execCall (a16 : Word) (s : State) : Result := .next (s.callTo a16)

/-- CNZ a16, 0xC4 (R203). -/
def execCnz (a16 : Word) (s : State) : Result := .next (s.onCondition .nz (s.callTo a16))

/-- CZ a16, 0xCC (R203). -/
def execCz (a16 : Word) (s : State) : Result := .next (s.onCondition .z (s.callTo a16))

/-- CNC a16, 0xD4 (R203). -/
def execCnc (a16 : Word) (s : State) : Result := .next (s.onCondition .nc (s.callTo a16))

/-- CC a16, 0xDC (R203). -/
def execCc (a16 : Word) (s : State) : Result := .next (s.onCondition .c (s.callTo a16))

/-- CPO a16, 0xE4 (R203). -/
def execCpo (a16 : Word) (s : State) : Result := .next (s.onCondition .po (s.callTo a16))

/-- CPE a16, 0xEC (R203). -/
def execCpe (a16 : Word) (s : State) : Result := .next (s.onCondition .pe (s.callTo a16))

/-- CP a16, 0xF4 (R203). -/
def execCp (a16 : Word) (s : State) : Result := .next (s.onCondition .p (s.callTo a16))

/-- CM a16, 0xFC (R203). -/
def execCm (a16 : Word) (s : State) : Result := .next (s.onCondition .m (s.callTo a16))

/-- RET, 0xC9 (R204). -/
def execRet (s : State) : Result := .next (s.returnFromCall)

/-- RNZ, 0xC0 (R205). -/
def execRnz (s : State) : Result := .next (s.onCondition .nz s.returnFromCall)

/-- RZ, 0xC8 (R205). -/
def execRz (s : State) : Result := .next (s.onCondition .z s.returnFromCall)

/-- RNC, 0xD0 (R205). -/
def execRnc (s : State) : Result := .next (s.onCondition .nc s.returnFromCall)

/-- RC, 0xD8 (R205). -/
def execRc (s : State) : Result := .next (s.onCondition .c s.returnFromCall)

/-- RPO, 0xE0 (R205). -/
def execRpo (s : State) : Result := .next (s.onCondition .po s.returnFromCall)

/-- RPE, 0xE8 (R205). -/
def execRpe (s : State) : Result := .next (s.onCondition .pe s.returnFromCall)

/-- RP, 0xF0 (R205). -/
def execRp (s : State) : Result := .next (s.onCondition .p s.returnFromCall)

/-- RM, 0xF8 (R205). -/
def execRm (s : State) : Result := .next (s.onCondition .m s.returnFromCall)

/-- RST 0, 0xC7 (R206). -/
def execRst0 (s : State) : Result := .next (s.callTo (vectorAddress 0))

/-- RST 1, 0xCF (R206). -/
def execRst1 (s : State) : Result := .next (s.callTo (vectorAddress 1))

/-- RST 2, 0xD7 (R206). -/
def execRst2 (s : State) : Result := .next (s.callTo (vectorAddress 2))

/-- RST 3, 0xDF (R206). -/
def execRst3 (s : State) : Result := .next (s.callTo (vectorAddress 3))

/-- RST 4, 0xE7 (R206). -/
def execRst4 (s : State) : Result := .next (s.callTo (vectorAddress 4))

/-- RST 5, 0xEF (R206). -/
def execRst5 (s : State) : Result := .next (s.callTo (vectorAddress 5))

/-- RST 6, 0xF7 (R206). -/
def execRst6 (s : State) : Result := .next (s.callTo (vectorAddress 6))

/-- RST 7, 0xFF (R206). -/
def execRst7 (s : State) : Result := .next (s.callTo (vectorAddress 7))

/-- PCHL, 0xE9 (R207). -/
def execPchl (s : State) : Result := .next (s.setPc s.hl)

end Sys2Proof.Machine
end

