-- ==== Sys2Proof/Machine/DataTransfer.lean ====
section
/-! DEFINITION. The data transfer instructions (40_data_transfer.md R120 to R132). As in every family file, the meaning is the effect that
follows `PC <- next` (10_state.md R26): the state it is given has its PC already past the instruction. -/

namespace Sys2Proof.Machine

/-- `HL <-> DE` (R132). -/
def State.exchangeDeHl (s : State) : State := (s.setHl s.de).setDe s.hl

/-- MOV B,B, 0x40 (R120). -/
def execMovBB (s : State) : Result := .next (s.setOperand (.reg .b) (s.operand (.reg .b)))

/-- MOV B,C, 0x41 (R120). -/
def execMovBC (s : State) : Result := .next (s.setOperand (.reg .b) (s.operand (.reg .c)))

/-- MOV B,D, 0x42 (R120). -/
def execMovBD (s : State) : Result := .next (s.setOperand (.reg .b) (s.operand (.reg .d)))

/-- MOV B,E, 0x43 (R120). -/
def execMovBE (s : State) : Result := .next (s.setOperand (.reg .b) (s.operand (.reg .e)))

/-- MOV B,H, 0x44 (R120). -/
def execMovBH (s : State) : Result := .next (s.setOperand (.reg .b) (s.operand (.reg .h)))

/-- MOV B,L, 0x45 (R120). -/
def execMovBL (s : State) : Result := .next (s.setOperand (.reg .b) (s.operand (.reg .l)))

/-- MOV B,A, 0x47 (R120). -/
def execMovBA (s : State) : Result := .next (s.setOperand (.reg .b) (s.operand (.reg .a)))

/-- MOV C,B, 0x48 (R120). -/
def execMovCB (s : State) : Result := .next (s.setOperand (.reg .c) (s.operand (.reg .b)))

/-- MOV C,C, 0x49 (R120). -/
def execMovCC (s : State) : Result := .next (s.setOperand (.reg .c) (s.operand (.reg .c)))

/-- MOV C,D, 0x4A (R120). -/
def execMovCD (s : State) : Result := .next (s.setOperand (.reg .c) (s.operand (.reg .d)))

/-- MOV C,E, 0x4B (R120). -/
def execMovCE (s : State) : Result := .next (s.setOperand (.reg .c) (s.operand (.reg .e)))

/-- MOV C,H, 0x4C (R120). -/
def execMovCH (s : State) : Result := .next (s.setOperand (.reg .c) (s.operand (.reg .h)))

/-- MOV C,L, 0x4D (R120). -/
def execMovCL (s : State) : Result := .next (s.setOperand (.reg .c) (s.operand (.reg .l)))

/-- MOV C,A, 0x4F (R120). -/
def execMovCA (s : State) : Result := .next (s.setOperand (.reg .c) (s.operand (.reg .a)))

/-- MOV D,B, 0x50 (R120). -/
def execMovDB (s : State) : Result := .next (s.setOperand (.reg .d) (s.operand (.reg .b)))

/-- MOV D,C, 0x51 (R120). -/
def execMovDC (s : State) : Result := .next (s.setOperand (.reg .d) (s.operand (.reg .c)))

/-- MOV D,D, 0x52 (R120). -/
def execMovDD (s : State) : Result := .next (s.setOperand (.reg .d) (s.operand (.reg .d)))

/-- MOV D,E, 0x53 (R120). -/
def execMovDE (s : State) : Result := .next (s.setOperand (.reg .d) (s.operand (.reg .e)))

/-- MOV D,H, 0x54 (R120). -/
def execMovDH (s : State) : Result := .next (s.setOperand (.reg .d) (s.operand (.reg .h)))

/-- MOV D,L, 0x55 (R120). -/
def execMovDL (s : State) : Result := .next (s.setOperand (.reg .d) (s.operand (.reg .l)))

/-- MOV D,A, 0x57 (R120). -/
def execMovDA (s : State) : Result := .next (s.setOperand (.reg .d) (s.operand (.reg .a)))

/-- MOV E,B, 0x58 (R120). -/
def execMovEB (s : State) : Result := .next (s.setOperand (.reg .e) (s.operand (.reg .b)))

/-- MOV E,C, 0x59 (R120). -/
def execMovEC (s : State) : Result := .next (s.setOperand (.reg .e) (s.operand (.reg .c)))

/-- MOV E,D, 0x5A (R120). -/
def execMovED (s : State) : Result := .next (s.setOperand (.reg .e) (s.operand (.reg .d)))

/-- MOV E,E, 0x5B (R120). -/
def execMovEE (s : State) : Result := .next (s.setOperand (.reg .e) (s.operand (.reg .e)))

/-- MOV E,H, 0x5C (R120). -/
def execMovEH (s : State) : Result := .next (s.setOperand (.reg .e) (s.operand (.reg .h)))

/-- MOV E,L, 0x5D (R120). -/
def execMovEL (s : State) : Result := .next (s.setOperand (.reg .e) (s.operand (.reg .l)))

/-- MOV E,A, 0x5F (R120). -/
def execMovEA (s : State) : Result := .next (s.setOperand (.reg .e) (s.operand (.reg .a)))

/-- MOV H,B, 0x60 (R120). -/
def execMovHB (s : State) : Result := .next (s.setOperand (.reg .h) (s.operand (.reg .b)))

/-- MOV H,C, 0x61 (R120). -/
def execMovHC (s : State) : Result := .next (s.setOperand (.reg .h) (s.operand (.reg .c)))

/-- MOV H,D, 0x62 (R120). -/
def execMovHD (s : State) : Result := .next (s.setOperand (.reg .h) (s.operand (.reg .d)))

/-- MOV H,E, 0x63 (R120). -/
def execMovHE (s : State) : Result := .next (s.setOperand (.reg .h) (s.operand (.reg .e)))

/-- MOV H,H, 0x64 (R120). -/
def execMovHH (s : State) : Result := .next (s.setOperand (.reg .h) (s.operand (.reg .h)))

/-- MOV H,L, 0x65 (R120). -/
def execMovHL (s : State) : Result := .next (s.setOperand (.reg .h) (s.operand (.reg .l)))

/-- MOV H,A, 0x67 (R120). -/
def execMovHA (s : State) : Result := .next (s.setOperand (.reg .h) (s.operand (.reg .a)))

/-- MOV L,B, 0x68 (R120). -/
def execMovLB (s : State) : Result := .next (s.setOperand (.reg .l) (s.operand (.reg .b)))

/-- MOV L,C, 0x69 (R120). -/
def execMovLC (s : State) : Result := .next (s.setOperand (.reg .l) (s.operand (.reg .c)))

/-- MOV L,D, 0x6A (R120). -/
def execMovLD (s : State) : Result := .next (s.setOperand (.reg .l) (s.operand (.reg .d)))

/-- MOV L,E, 0x6B (R120). -/
def execMovLE (s : State) : Result := .next (s.setOperand (.reg .l) (s.operand (.reg .e)))

/-- MOV L,H, 0x6C (R120). -/
def execMovLH (s : State) : Result := .next (s.setOperand (.reg .l) (s.operand (.reg .h)))

/-- MOV L,L, 0x6D (R120). -/
def execMovLL (s : State) : Result := .next (s.setOperand (.reg .l) (s.operand (.reg .l)))

/-- MOV L,A, 0x6F (R120). -/
def execMovLA (s : State) : Result := .next (s.setOperand (.reg .l) (s.operand (.reg .a)))

/-- MOV A,B, 0x78 (R120). -/
def execMovAB (s : State) : Result := .next (s.setOperand (.reg .a) (s.operand (.reg .b)))

/-- MOV A,C, 0x79 (R120). -/
def execMovAC (s : State) : Result := .next (s.setOperand (.reg .a) (s.operand (.reg .c)))

/-- MOV A,D, 0x7A (R120). -/
def execMovAD (s : State) : Result := .next (s.setOperand (.reg .a) (s.operand (.reg .d)))

/-- MOV A,E, 0x7B (R120). -/
def execMovAE (s : State) : Result := .next (s.setOperand (.reg .a) (s.operand (.reg .e)))

/-- MOV A,H, 0x7C (R120). -/
def execMovAH (s : State) : Result := .next (s.setOperand (.reg .a) (s.operand (.reg .h)))

/-- MOV A,L, 0x7D (R120). -/
def execMovAL (s : State) : Result := .next (s.setOperand (.reg .a) (s.operand (.reg .l)))

/-- MOV A,A, 0x7F (R120). -/
def execMovAA (s : State) : Result := .next (s.setOperand (.reg .a) (s.operand (.reg .a)))

/-- MOV B,M, 0x46 (R121). -/
def execMovBM (s : State) : Result := .next (s.setOperand (.reg .b) (s.operand .mem))

/-- MOV C,M, 0x4E (R121). -/
def execMovCM (s : State) : Result := .next (s.setOperand (.reg .c) (s.operand .mem))

/-- MOV D,M, 0x56 (R121). -/
def execMovDM (s : State) : Result := .next (s.setOperand (.reg .d) (s.operand .mem))

/-- MOV E,M, 0x5E (R121). -/
def execMovEM (s : State) : Result := .next (s.setOperand (.reg .e) (s.operand .mem))

/-- MOV H,M, 0x66 (R121). -/
def execMovHM (s : State) : Result := .next (s.setOperand (.reg .h) (s.operand .mem))

/-- MOV L,M, 0x6E (R121). -/
def execMovLM (s : State) : Result := .next (s.setOperand (.reg .l) (s.operand .mem))

/-- MOV A,M, 0x7E (R121). -/
def execMovAM (s : State) : Result := .next (s.setOperand (.reg .a) (s.operand .mem))

/-- MOV M,B, 0x70 (R122). -/
def execMovMB (s : State) : Result := .next (s.setOperand .mem (s.operand (.reg .b)))

/-- MOV M,C, 0x71 (R122). -/
def execMovMC (s : State) : Result := .next (s.setOperand .mem (s.operand (.reg .c)))

/-- MOV M,D, 0x72 (R122). -/
def execMovMD (s : State) : Result := .next (s.setOperand .mem (s.operand (.reg .d)))

/-- MOV M,E, 0x73 (R122). -/
def execMovME (s : State) : Result := .next (s.setOperand .mem (s.operand (.reg .e)))

/-- MOV M,H, 0x74 (R122). -/
def execMovMH (s : State) : Result := .next (s.setOperand .mem (s.operand (.reg .h)))

/-- MOV M,L, 0x75 (R122). -/
def execMovML (s : State) : Result := .next (s.setOperand .mem (s.operand (.reg .l)))

/-- MOV M,A, 0x77 (R122). -/
def execMovMA (s : State) : Result := .next (s.setOperand .mem (s.operand (.reg .a)))

/-- MVI B,d8, 0x06 (R123). -/
def execMviB (d8 : Byte) (s : State) : Result := .next (s.setOperand (.reg .b) d8)

/-- MVI C,d8, 0x0E (R123). -/
def execMviC (d8 : Byte) (s : State) : Result := .next (s.setOperand (.reg .c) d8)

/-- MVI D,d8, 0x16 (R123). -/
def execMviD (d8 : Byte) (s : State) : Result := .next (s.setOperand (.reg .d) d8)

/-- MVI E,d8, 0x1E (R123). -/
def execMviE (d8 : Byte) (s : State) : Result := .next (s.setOperand (.reg .e) d8)

/-- MVI H,d8, 0x26 (R123). -/
def execMviH (d8 : Byte) (s : State) : Result := .next (s.setOperand (.reg .h) d8)

/-- MVI L,d8, 0x2E (R123). -/
def execMviL (d8 : Byte) (s : State) : Result := .next (s.setOperand (.reg .l) d8)

/-- MVI A,d8, 0x3E (R123). -/
def execMviA (d8 : Byte) (s : State) : Result := .next (s.setOperand (.reg .a) d8)

/-- MVI M,d8, 0x36 (R124). -/
def execMviM (d8 : Byte) (s : State) : Result := .next (s.setOperand .mem d8)

/-- LXI B,d16, 0x01 (R125). -/
def execLxiB (d16 : Word) (s : State) : Result := .next (s.setPair .bc d16)

/-- LXI D,d16, 0x11 (R125). -/
def execLxiD (d16 : Word) (s : State) : Result := .next (s.setPair .de d16)

/-- LXI H,d16, 0x21 (R125). -/
def execLxiH (d16 : Word) (s : State) : Result := .next (s.setPair .hl d16)

/-- LXI SP,d16, 0x31 (R125). -/
def execLxiSp (d16 : Word) (s : State) : Result := .next (s.setPair .sp d16)

/-- LDA a16, 0x3A (R126). -/
def execLda (a16 : Word) (s : State) : Result := .next (s.setReg .a (s.read8 a16))

/-- STA a16, 0x32 (R127). -/
def execSta (a16 : Word) (s : State) : Result := .next (s.write8 a16 (s.reg .a))

/-- LHLD a16, 0x2A (R128). -/
def execLhld (a16 : Word) (s : State) : Result := .next (s.setHl (s.read16 a16))

/-- SHLD a16, 0x22 (R129). -/
def execShld (a16 : Word) (s : State) : Result := .next (s.write16 a16 s.hl)

/-- LDAX B, 0x0A (R130). -/
def execLdaxB (s : State) : Result := .next (s.setReg .a (s.read8 (s.pair (indexPairOf .bc))))

/-- LDAX D, 0x1A (R130). -/
def execLdaxD (s : State) : Result := .next (s.setReg .a (s.read8 (s.pair (indexPairOf .de))))

/-- STAX B, 0x02 (R131). -/
def execStaxB (s : State) : Result := .next (s.write8 (s.pair (indexPairOf .bc)) (s.reg .a))

/-- STAX D, 0x12 (R131). -/
def execStaxD (s : State) : Result := .next (s.write8 (s.pair (indexPairOf .de)) (s.reg .a))

/-- XCHG, 0xEB (R132). -/
def execXchg (s : State) : Result := .next (s.exchangeDeHl)

end Sys2Proof.Machine
end

