-- ==== Sys2Proof/Machine/Logical.lean ====
section
/-! DEFINITION. The logical, compare, rotate and carry instructions (42_logical.md R170 to R189). -/

namespace Sys2Proof.Machine

/-- `A <- v; logic(A)` (R170). -/
def State.setLogic (s : State) (v : Byte) : State := s.setAcc { value := v, flags := logicFlags v }

/-- R171 to R173. -/
def State.andWith (s : State) (v : Byte) : State := s.setLogic (s.reg .a &&& v)

/-- R174 to R176. -/
def State.xorWith (s : State) (v : Byte) : State := s.setLogic (s.reg .a ^^^ v)

/-- R177 to R179. -/
def State.orWith (s : State) (v : Byte) : State := s.setLogic (s.reg .a ||| v)

/-- `sub8(A, v, 0)` with the result byte discarded (R180 to R182). -/
def State.compareWith (s : State) (v : Byte) : State := s.setFlags (sub8 (s.reg .a) v false).flags

/-- A byte and the new CY. -/
structure Rotated where
  value : Byte
  cy : Bool
deriving DecidableEq, Repr

/-- RLC (R183): bit 7 into CY and into bit 0. -/
def rlc8 (a : Byte) : Rotated := { value := a <<< 1 ||| (bit1 (a.getLsbD 7)).setWidth 8, cy := a.getLsbD 7 }

/-- RRC (R184): bit 0 into CY and into bit 7. -/
def rrc8 (a : Byte) : Rotated := { value := a >>> 1 ||| (bit1 (a.getLsbD 0)).setWidth 8 <<< 7, cy := a.getLsbD 0 }

/-- RAL (R185): bit 7 into CY, the old CY into bit 0. -/
def ral8 (a : Byte) (cy : Bool) : Rotated := { value := a <<< 1 ||| (bit1 cy).setWidth 8, cy := a.getLsbD 7 }

/-- RAR (R186): bit 0 into CY, the old CY into bit 7. -/
def rar8 (a : Byte) (cy : Bool) : Rotated := { value := a >>> 1 ||| (bit1 cy).setWidth 8 <<< 7, cy := a.getLsbD 0 }

/-- A rotate writes A and CY only. -/
def State.rotate (s : State) (r : Rotated) : State := (s.setReg .a r.value).setCarry r.cy

/-- ANA B, 0xA0 (R171). -/
def execAnaB (s : State) : Result := .next (s.andWith (s.operand (.reg .b)))

/-- ANA C, 0xA1 (R171). -/
def execAnaC (s : State) : Result := .next (s.andWith (s.operand (.reg .c)))

/-- ANA D, 0xA2 (R171). -/
def execAnaD (s : State) : Result := .next (s.andWith (s.operand (.reg .d)))

/-- ANA E, 0xA3 (R171). -/
def execAnaE (s : State) : Result := .next (s.andWith (s.operand (.reg .e)))

/-- ANA H, 0xA4 (R171). -/
def execAnaH (s : State) : Result := .next (s.andWith (s.operand (.reg .h)))

/-- ANA L, 0xA5 (R171). -/
def execAnaL (s : State) : Result := .next (s.andWith (s.operand (.reg .l)))

/-- ANA A, 0xA7 (R171). -/
def execAnaA (s : State) : Result := .next (s.andWith (s.operand (.reg .a)))

/-- ANA M, 0xA6 (R172). -/
def execAnaM (s : State) : Result := .next (s.andWith (s.operand .mem))

/-- ANI d8, 0xE6 (R173). -/
def execAni (d8 : Byte) (s : State) : Result := .next (s.andWith d8)

/-- XRA B, 0xA8 (R174). -/
def execXraB (s : State) : Result := .next (s.xorWith (s.operand (.reg .b)))

/-- XRA C, 0xA9 (R174). -/
def execXraC (s : State) : Result := .next (s.xorWith (s.operand (.reg .c)))

/-- XRA D, 0xAA (R174). -/
def execXraD (s : State) : Result := .next (s.xorWith (s.operand (.reg .d)))

/-- XRA E, 0xAB (R174). -/
def execXraE (s : State) : Result := .next (s.xorWith (s.operand (.reg .e)))

/-- XRA H, 0xAC (R174). -/
def execXraH (s : State) : Result := .next (s.xorWith (s.operand (.reg .h)))

/-- XRA L, 0xAD (R174). -/
def execXraL (s : State) : Result := .next (s.xorWith (s.operand (.reg .l)))

/-- XRA A, 0xAF (R174). -/
def execXraA (s : State) : Result := .next (s.xorWith (s.operand (.reg .a)))

/-- XRA M, 0xAE (R175). -/
def execXraM (s : State) : Result := .next (s.xorWith (s.operand .mem))

/-- XRI d8, 0xEE (R176). -/
def execXri (d8 : Byte) (s : State) : Result := .next (s.xorWith d8)

/-- ORA B, 0xB0 (R177). -/
def execOraB (s : State) : Result := .next (s.orWith (s.operand (.reg .b)))

/-- ORA C, 0xB1 (R177). -/
def execOraC (s : State) : Result := .next (s.orWith (s.operand (.reg .c)))

/-- ORA D, 0xB2 (R177). -/
def execOraD (s : State) : Result := .next (s.orWith (s.operand (.reg .d)))

/-- ORA E, 0xB3 (R177). -/
def execOraE (s : State) : Result := .next (s.orWith (s.operand (.reg .e)))

/-- ORA H, 0xB4 (R177). -/
def execOraH (s : State) : Result := .next (s.orWith (s.operand (.reg .h)))

/-- ORA L, 0xB5 (R177). -/
def execOraL (s : State) : Result := .next (s.orWith (s.operand (.reg .l)))

/-- ORA A, 0xB7 (R177). -/
def execOraA (s : State) : Result := .next (s.orWith (s.operand (.reg .a)))

/-- ORA M, 0xB6 (R178). -/
def execOraM (s : State) : Result := .next (s.orWith (s.operand .mem))

/-- ORI d8, 0xF6 (R179). -/
def execOri (d8 : Byte) (s : State) : Result := .next (s.orWith d8)

/-- CMP B, 0xB8 (R180). -/
def execCmpB (s : State) : Result := .next (s.compareWith (s.operand (.reg .b)))

/-- CMP C, 0xB9 (R180). -/
def execCmpC (s : State) : Result := .next (s.compareWith (s.operand (.reg .c)))

/-- CMP D, 0xBA (R180). -/
def execCmpD (s : State) : Result := .next (s.compareWith (s.operand (.reg .d)))

/-- CMP E, 0xBB (R180). -/
def execCmpE (s : State) : Result := .next (s.compareWith (s.operand (.reg .e)))

/-- CMP H, 0xBC (R180). -/
def execCmpH (s : State) : Result := .next (s.compareWith (s.operand (.reg .h)))

/-- CMP L, 0xBD (R180). -/
def execCmpL (s : State) : Result := .next (s.compareWith (s.operand (.reg .l)))

/-- CMP A, 0xBF (R180). -/
def execCmpA (s : State) : Result := .next (s.compareWith (s.operand (.reg .a)))

/-- CMP M, 0xBE (R181). -/
def execCmpM (s : State) : Result := .next (s.compareWith (s.operand .mem))

/-- CPI d8, 0xFE (R182). -/
def execCpi (d8 : Byte) (s : State) : Result := .next (s.compareWith d8)

/-- RLC, 0x07 (R183). -/
def execRlc (s : State) : Result := .next (s.rotate (rlc8 (s.reg .a)))

/-- RRC, 0x0F (R184). -/
def execRrc (s : State) : Result := .next (s.rotate (rrc8 (s.reg .a)))

/-- RAL, 0x17 (R185). -/
def execRal (s : State) : Result := .next (s.rotate (ral8 (s.reg .a) s.flags.cy))

/-- RAR, 0x1F (R186). -/
def execRar (s : State) : Result := .next (s.rotate (rar8 (s.reg .a) s.flags.cy))

/-- CMA, 0x2F (R187). -/
def execCma (s : State) : Result := .next (s.setReg .a (~~~(s.reg .a)))

/-- CMC, 0x3F (R188). -/
def execCmc (s : State) : Result := .next (s.setCarry (!s.flags.cy))

/-- STC, 0x37 (R189). -/
def execStc (s : State) : Result := .next (s.setCarry true)

end Sys2Proof.Machine
end

