-- ==== Sys2Proof/Machine/Ports.lean ====
section
/-! DEFINITION. The port model (60_exceptions.md R280 to R291), reached only by IN and OUT. -/

namespace Sys2Proof.Machine

/-- `input[p]` (R283). -/
def State.inputAt (s : State) (p : Byte) : Byte := Cells.get s.input p.toNat

/-- `sound_latch[p]` (R43). -/
def State.latchAt (s : State) (p : Byte) : Byte := Cells.get s.soundLatch p.toNat

/-- `SoundMask[p]`, none outside its domain (R11). -/
def maskAt (c : Config) (p : Byte) : Option Byte := c.soundMask.lookup p

/-- `(shift_register >> (8 - shift_amount)) & 0xFF` (R282). -/
def shiftWindow (register : Word) (amount : BitVec 3) : Byte :=
  BitVec.ofNat 8 (register.toNat >>> (8 - amount.toNat))

/-- `PortIn(p)` (R281, R289). -/
def State.portIn (s : State) (p : Byte) : Byte :=
  if p = s.config.shiftReadPort then shiftWindow s.shiftRegister s.shiftAmount
  else if s.config.inputPorts.contains p then s.inputAt p
  else 0

def State.setShiftRegister (s : State) (v : Word) : State := { s with shiftRegister := v }

def State.setShiftAmount (s : State) (v : BitVec 3) : State := { s with shiftAmount := v }

def State.setSoundLatch (s : State) (m : Cells) : State := { s with soundLatch := m }

def State.setSoundEvents (s : State) (q : List SoundEvent) : State := { s with soundEvents := q }

/-- `((v << 8) | (shift_register >> 8)) & 0xFFFF` (R286). -/
def shiftInsert (register : Word) (v : Byte) : Word :=
  BitVec.ofNat 16 ((v.toNat <<< 8) ||| (register.toNat >>> 8))

/-- The bits, in ascending order, that are set in a byte. -/
def setBits (v : Byte) : List (Fin 8) :=
  ([0, 1, 2, 3, 4, 5, 6, 7] : List (Fin 8)).filter (fun i => v.getLsbD i.val)

/-- The events of one sound-port write, in ascending bit order (R287). -/
def risingEvents (p : Byte) (new old : Byte) : List SoundEvent :=
  (setBits (new &&& ~~~old)).map (fun i => { port := p, bit := i })

/-- The write of a sound port with mask `m` (R287). -/
def State.soundWrite (s : State) (p m v : Byte) : State :=
  (s.setSoundEvents (s.soundEvents ++ risingEvents p (v &&& m) (s.latchAt p))).setSoundLatch
    (Cells.set s.soundLatch p.toNat (v &&& m))

/-- `PortOut(p, v)` (R284, R285, R286, R289). -/
def State.portOut (s : State) (p v : Byte) : State :=
  if p = s.config.shiftAmountPort then s.setShiftAmount (v.extractLsb' 0 3)
  else if p = s.config.shiftDataPort then s.setShiftRegister (shiftInsert s.shiftRegister v)
  else
    match maskAt s.config p with
    | some m => s.soundWrite p m v
    | none => s

end Sys2Proof.Machine
end

