-- ==== Sys2Proof/Machine/StackIoControl.lean ====
section
/-! DEFINITION. The stack, port and machine control instructions (44_stack_io_control.md R222 to R233), and the fatal error of a byte
without an instruction (60_exceptions.md R241). -/

namespace Sys2Proof.Machine

/-- `PSW = {A, flagbyte}` (10_state.md R24). -/
def State.psw (s : State) : Word := word16 (s.reg .a) s.flags.pack

/-- POP PSW's writes: A from bits 15:8, the flags from bits 7:0 (R225). -/
def State.setPsw (s : State) (v : Word) : State := (s.setReg .a (hiByte v)).setFlags (.unpack (loByte v))

/-- XTHL (R226): both bytes are read before either is written. -/
def State.exchangeTopHl (s : State) : State :=
  ((s.write8 s.sp s.regs.l).write8 (s.sp + 1) s.regs.h).setHl s.popValue

/-- PUSH B, 0xC5 (R222). -/
def execPushB (s : State) : Result := .next (s.push16 (s.pair (stackPairOf .bc)))

/-- PUSH D, 0xD5 (R222). -/
def execPushD (s : State) : Result := .next (s.push16 (s.pair (stackPairOf .de)))

/-- PUSH H, 0xE5 (R222). -/
def execPushH (s : State) : Result := .next (s.push16 (s.pair (stackPairOf .hl)))

/-- POP B, 0xC1 (R223). -/
def execPopB (s : State) : Result := .next (s.popped.setPair (stackPairOf .bc) s.popValue)

/-- POP D, 0xD1 (R223). -/
def execPopD (s : State) : Result := .next (s.popped.setPair (stackPairOf .de) s.popValue)

/-- POP H, 0xE1 (R223). -/
def execPopH (s : State) : Result := .next (s.popped.setPair (stackPairOf .hl) s.popValue)

/-- PUSH PSW, 0xF5 (R224). -/
def execPushPsw (s : State) : Result := .next (s.push16 s.psw)

/-- POP PSW, 0xF1 (R225). -/
def execPopPsw (s : State) : Result := .next (s.popped.setPsw s.popValue)

/-- XTHL, 0xE3 (R226). -/
def execXthl (s : State) : Result := .next (s.exchangeTopHl)

/-- SPHL, 0xF9 (R227). -/
def execSphl (s : State) : Result := .next (s.setSp s.hl)

/-- IN p8, 0xDB (R228). -/
def execInPort (p8 : Byte) (s : State) : Result := .next (s.setReg .a (s.portIn p8))

/-- OUT p8, 0xD3 (R229). -/
def execOutPort (p8 : Byte) (s : State) : Result := .next (s.portOut p8 (s.reg .a))

/-- EI, 0xFB (R230). -/
def execEi (s : State) : Result := .next (s.setIe true)

/-- DI, 0xF3 (R231). -/
def execDi (s : State) : Result := .next (s.setIe false)

/-- HLT, 0x76 (R232). -/
def execHlt (s : State) : Result := .next (s.setHalted true)

/-- NOP, 0x00 (R233). -/
def execNop (s : State) : Result := .next s

/-- A byte without an instruction (R102, R103): `Fault(UnsupportedOpcode, (pc0, op))` (R241). The PC it is given is `pc0`, since a byte
without an instruction has no length. -/
def execUnsupported (opcode : Byte) (s : State) : Result := .next (s.raiseFatal (.unsupportedOpcode s.pc opcode))

end Sys2Proof.Machine
end

