-- ==== Sys2Proof/Machine/Scheduler.lean ====
section
/-! DEFINITION. The scheduler around the CPU step, and the yield (60_exceptions.md R270 to R276). -/

namespace Sys2Proof.Machine

def State.setInput (s : State) (m : Cells) : State := { s with input := m }

def State.setSoundOutput (s : State) (q : List SoundEvent) : State := { s with soundOutput := q }

def State.setPacing (s : State) (total half : Nat) : State := { s with totalCycles := total, halfCycles := half }

def State.setPhase (s : State) (p : Phase) : State := { s with phase := p }

def State.setRun (s : State) (r : RunStatus) : State := { s with run := r }

def State.setHost (s : State) (q : List HostSample) (n : Nat) : State := { s with hostQueue := q, yields := n }

/-- The bytes the renderer may read at a yield (R275 (1), 00_scope.md R8). It changes nothing. -/
def State.videoBytes (s : State) : List Byte :=
  (List.range s.config.videoSize).map (fun i => s.read8 (BitVec.ofNat 16 (s.config.videoBase + i)))

/-- The byte the input provider gives for a port at the coming yield (R275 (3)): the host queue's, or a free value (log 8). -/
def State.nextInput (s : State) (p : Byte) : Byte :=
  match s.hostQueue with
  | h :: _ => Cells.get h.inputs p.toNat
  | [] => Config.inputDraw s.yields p

/-- The exit request at the coming yield (R276): the host queue's, or a free value (log 8). -/
def State.nextExit (s : State) : Bool :=
  match s.hostQueue with
  | h :: _ => h.exit
  | [] => Config.exitDraw s.yields

/-- `input[p]` replaced for each `p` of a list of ports. -/
def State.sampleInputs (s : State) (ports : List Byte) : Cells :=
  ports.foldl (fun m p => Cells.set m p.toNat (s.nextInput p)) s.input

/-- The yield drains the sound events: it hands them to the audio collaborator, in order, and empties the queue (R44, R275 (2), R290;
log 21). -/
def State.drainSound (s : State) : State := (s.setSoundOutput (s.soundOutput ++ s.soundEvents)).setSoundEvents []

/-- `Yield()` (R275): the sound events are drained, every `input[p]` is replaced, the exit request is sampled. -/
def State.yield (s : State) : State :=
  ((s.drainSound.setInput (s.sampleInputs s.config.inputPorts)).setRun
    (if s.nextExit then .stopped else s.run)).setHost s.hostQueue.tail (s.yields + 1)

/-- The mid-frame event (R272). -/
def State.midFrame (s : State) : State :=
  ((s.raiseInterrupt s.config.midVector).setPhase .second).setPacing s.totalCycles 0

/-- The end-of-frame event (R273): the interrupt is raised first, then the yield. -/
def State.endOfFrame (s : State) : State :=
  ((s.raiseInterrupt s.config.endVector).yield.setPhase .first).setPacing s.totalCycles 0

/-- The counters after a step of `c` cycles (R271). -/
def State.countCycles (s : State) (c : Nat) : State := s.setPacing (s.totalCycles + c) (s.halfCycles + c)

/-- The event that is due, if `half_cycles >= HalfBudget` (R271). -/
def State.dueEvent (s : State) : State :=
  if s.config.halfBudget ≤ s.halfCycles then
    match s.phase with
    | .first => s.midFrame
    | .second => s.endOfFrame
  else s

/-- What one scheduler iteration does after a step of `c` cycles (R271). -/
def State.schedule (s : State) (c : Nat) : State := (s.countCycles c).dueEvent

end Sys2Proof.Machine
end

