-- ==== Sys2Proof/Machine/Iteration.lean ====
section
/-! DEFINITION. `Step()` of the CPU core (60_exceptions.md R250, R251) and the scheduler iteration around it (R271), which is one step of
the model (log 2). -/

namespace Sys2Proof.Machine

/-- The instruction at the PC: "decoded fresh from Memory at each fetch" (20_memory.md R77), addresses modulo 2^16 (30_encoding.md R108).
A read has no side effect (R64), so the operand bytes are read whether or not they are needed (log 18). -/
def State.fetched (s : State) : Instr :=
  decodeModeled s.config.disabledOpcodes (s.read8 s.pc) (s.read8 (s.pc + 1)) (s.read8 (s.pc + 2))

/-- `PC <- (pc0 + len) mod 2^16` (10_state.md R26). -/
def State.advance (s : State) (i : Instr) : State := s.setPc (s.pc + BitVec.ofNat 16 i.length)

/-- The state part of `Step()` (R250): interrupt entry, the halted idle step, or fetch and execute. -/
def cpuStep (s : State) : Result :=
  match s.pending with
  | some v => .next (s.interruptEntry v)
  | none => if s.halted then .next s else exec s.fetched (s.advance s.fetched)

/-- The cycle count `Step()` returns (R250, R320). -/
def cpuCycles (s : State) : Nat :=
  match s.pending with
  | some v => entryCycles s.config v
  | none =>
    if s.halted then s.config.haltIdleCycles
    else cyclesOf s.config s.fetched.opcode (conditionTaken s.fetched s.flags)

/-- The rest of the iteration after a CPU step of `c` cycles: "if it faults, nothing below happens" (R271). -/
def afterCpuStep (c : Nat) : Result → Result
  | .next t =>
    match t.fault with
    | some _ => .next t
    | none => .next (t.schedule c)
  | .fault r => .fault r
  | .refused r => .refused r

/-- `SchedulerIteration()` (R271) where its precondition holds; otherwise the machine takes no step (R240, R276; log 6, log 7). -/
def schedulerIteration (s : State) : Result :=
  match s.fault with
  | some e => .fault (.fatal e)
  | none =>
    match s.run with
    | .stopped => .fault .runStopped
    | .running => afterCpuStep (cpuCycles s) (cpuStep s)

/-- Three bytes put at the PC, as a loader would, and whatever keeps the next step from fetching them taken away (log 5). -/
def State.placeAtPc (s : State) (b1 b2 b3 : Byte) : State :=
  { s with
    mem := Cells.set (Cells.set (Cells.set s.mem s.pc.toNat b1) (s.pc + 1).toNat b2) (s.pc + 2).toNat b3
    pending := none
    halted := false
    fault := none
    run := .running
    config := { s.config with disabledOpcodes := s.config.disabledOpcodes.filter (fun op => op != b1) } }

end Sys2Proof.Machine
end

