-- ==== Sys2Proof/Machine/Step.lean ====
section
/-! DEFINITION. One step of the machine, and placing an instruction where the next step fetches it. -/

namespace Sys2Proof.Machine

/-- One scheduler iteration (60_exceptions.md R271): "The machine's execution is the repetition of SchedulerIteration()" (log 2). -/
def step (s : State) : Host.Outcome State Fault Refusal := schedulerIteration s

/-- The state with the instruction of bits `w` at the PC, so that the next step fetches and runs it (log 5). -/
def State.withFetchWord (s : State) (nbits w : Nat) : State :=
  s.placeAtPc (byteOfNat (w % 2 ^ nbits) 0) (byteOfNat (w % 2 ^ nbits) 1) (byteOfNat (w % 2 ^ nbits) 2)

end Sys2Proof.Machine
end

