-- ==== Sys2Proof/Machine/Boot.lean ====
section
/-! DEFINITION. Reset for every image and every draw (10_state.md R50, 70_reset_and_hazards.md R300). -/

namespace Sys2Proof.Machine

/-- What R50 leaves as a draw at reset, and the model's own host queue (log 8). -/
structure ResetDraw where
  regs : Regs
  flags : Flags
  sp : Word
  shiftRegister : Word
  shiftAmount : BitVec 3
  input : Cells
  mem : Memory
  hostQueue : List HostSample
deriving DecidableEq, Repr

/-- Bytes written at consecutive addresses from `a`. -/
def loadBytes (m : Memory) (a : Nat) : List Byte → Memory
  | [] => m
  | v :: rest => loadBytes (Cells.set m a v) (a + 1) rest

/-- The loader (R300): "byte i of the image goes to mem[i] for 0 <= i < ProgramRegionSize", not subject to `RomWritePolicy`. -/
def loadImage (c : Config) (m : Memory) (image : List Byte) : Memory :=
  loadBytes m 0 (image.take c.programRegionSize)

/-- The reset state with parameters `c`, program `image` and draws `d` (R50, R300). -/
def State.powerOn (c : Config) (image : List Byte) (d : ResetDraw) : State where
  regs := d.regs
  flags := d.flags
  sp := d.sp
  pc := 0
  ie := false
  pending := none
  halted := false
  fault := none
  shiftRegister := d.shiftRegister
  shiftAmount := d.shiftAmount
  input := d.input
  soundLatch := []
  soundEvents := []
  soundOutput := []
  totalCycles := 0
  halfCycles := 0
  phase := .first
  run := .running
  mem := loadImage c d.mem image
  config := c
  hostQueue := d.hostQueue
  yields := 0

/-- Every draw at zero: the choice of `State.reset` (log 3, log 4). -/
def ResetDraw.zero : ResetDraw where
  regs := { a := 0, b := 0, c := 0, d := 0, e := 0, h := 0, l := 0 }
  flags := { s := false, z := false, ac := false, p := false, cy := false }
  sp := 0
  shiftRegister := 0
  shiftAmount := 0
  input := []
  mem := []
  hostQueue := []

end Sys2Proof.Machine
end

