-- ==== Sys2Proof/Machine/Effects.lean ====
section
/-! DEFINITION. The summaries the spec gives of the instructions beside their rules, as functions of the family, for the statements: the
flag column of R110, the registers of R23 and R27, the stored bytes of R71, encoding and cycles. No meaning uses them. -/

namespace Sys2Proof.Machine

/-- The five flags by name (R28). -/
inductive FlagName where
  | s | z | ac | p | cy
deriving DecidableEq, Repr

/-- A flag by name. -/
def Flags.get (f : Flags) : FlagName → Bool
  | .s => f.s
  | .z => f.z
  | .ac => f.ac
  | .p => f.p
  | .cy => f.cy

/-- All five flags. -/
def allFlags : List FlagName := [.z, .s, .p, .cy, .ac]

/-- The column "flags written" of R110. -/
def flagsWritten : Form → List FlagName
  | .alu _ _ => allFlags
  | .aluImm _ _ => allFlags
  | .inr _ => [.z, .s, .p, .ac]
  | .dcr _ => [.z, .s, .p, .ac]
  | .dad _ => [.cy]
  | .daa => allFlags
  | .rlc => [.cy]
  | .rrc => [.cy]
  | .ral => [.cy]
  | .rar => [.cy]
  | .cmc => [.cy]
  | .stc => [.cy]
  | .popPsw => allFlags
  | .mov _ _ | .mvi _ _ | .lxi _ _ | .lda _ | .sta _ | .lhld _ | .shld _ | .ldax _ | .stax _ | .xchg | .inx _ | .dcx _
  | .cma | .jmp _ | .jcc _ _ | .call _ | .ccc _ _ | .ret | .rcc _ | .rst _ | .pchl | .push _ | .pop _ | .pushPsw
  | .xthl | .sphl | .inPort _ | .outPort _ | .ei | .di | .hlt | .nop | .unsupported _ => []

/-- The register an 8-bit operand is; none for M. -/
def operandReg : Operand → List Reg
  | .reg r => [r]
  | .mem => []

/-- The registers a pair is made of; none for SP (R22). -/
def pairRegs : Pair → List Reg
  | .bc => [.b, .c]
  | .de => [.d, .e]
  | .hl => [.h, .l]
  | .sp => []

/-- Where an arithmetic or logic operation puts its result byte: A, and nowhere for CMP (R180). -/
def aluDest : AluOp → List Reg
  | .cmp => []
  | _ => [.a]

/-- The general registers an instruction writes (R23). -/
def regsWritten : Form → List Reg
  | .mov d _ => operandReg d
  | .mvi d _ => operandReg d
  | .lxi p _ => pairRegs p
  | .lda _ => [.a]
  | .lhld _ => [.h, .l]
  | .ldax _ => [.a]
  | .xchg => [.d, .e, .h, .l]
  | .alu o _ => aluDest o
  | .aluImm o _ => aluDest o
  | .inr o => operandReg o
  | .dcr o => operandReg o
  | .inx p => pairRegs p
  | .dcx p => pairRegs p
  | .dad _ => [.h, .l]
  | .daa => [.a]
  | .rlc => [.a]
  | .rrc => [.a]
  | .ral => [.a]
  | .rar => [.a]
  | .cma => [.a]
  | .pop p => pairRegs (stackPairOf p)
  | .popPsw => [.a]
  | .xthl => [.h, .l]
  | .inPort _ => [.a]
  | .sta _ | .shld _ | .stax _ | .cmc | .stc | .jmp _ | .jcc _ _ | .call _ | .ccc _ _ | .ret | .rcc _ | .rst _ | .pchl
  | .push _ | .pushPsw | .sphl | .outPort _ | .ei | .di | .hlt | .nop | .unsupported _ => []

/-- Whether an instruction writes SP (R27). -/
def writesSp : Form → Bool
  | .lxi p _ => p == .sp
  | .inx p => p == .sp
  | .dcx p => p == .sp
  | .push _ => true
  | .pop _ => true
  | .pushPsw => true
  | .popPsw => true
  | .call _ => true
  | .ccc _ _ => true
  | .ret => true
  | .rcc _ => true
  | .rst _ => true
  | .sphl => true
  | .mov _ _ | .mvi _ _ | .lda _ | .sta _ | .lhld _ | .shld _ | .ldax _ | .stax _ | .xchg | .alu _ _ | .aluImm _ _
  | .inr _ | .dcr _ | .dad _ | .daa | .rlc | .rrc | .ral | .rar | .cma | .cmc | .stc | .jmp _ | .jcc _ _ | .pchl
  | .xthl | .inPort _ | .outPort _ | .ei | .di | .hlt | .nop | .unsupported _ => false

/-- Whether an instruction "itself sets PC" (R26). -/
def writesPc : Form → Bool
  | .jmp _ => true
  | .jcc _ _ => true
  | .call _ => true
  | .ccc _ _ => true
  | .ret => true
  | .rcc _ => true
  | .rst _ => true
  | .pchl => true
  | .mov _ _ | .mvi _ _ | .lxi _ _ | .lda _ | .sta _ | .lhld _ | .shld _ | .ldax _ | .stax _ | .xchg | .alu _ _
  | .aluImm _ _ | .inr _ | .dcr _ | .inx _ | .dcx _ | .dad _ | .daa | .rlc | .rrc | .ral | .rar | .cma | .cmc | .stc
  | .push _ | .pop _ | .pushPsw | .popPsw | .xthl | .sphl | .inPort _ | .outPort _ | .ei | .di | .hlt | .nop
  | .unsupported _ => false

/-- The operand as a stored byte: M is the byte at HL. -/
def operandStore (s : State) : Operand → List Word
  | .reg _ => []
  | .mem => [s.hl]

/-- The two bytes a push stores to (R220). -/
def pushStore (s : State) : List Word := [s.sp - 1, s.sp - 2]

/-- The addresses an instruction stores to, from the state it acts on (R71 and the instruction rules). -/
def storedAddresses (s : State) : Form → List Word
  | .mov d _ => operandStore s d
  | .mvi d _ => operandStore s d
  | .inr o => operandStore s o
  | .dcr o => operandStore s o
  | .sta a => [a]
  | .shld a => [a, a + 1]
  | .stax p => [s.pair (indexPairOf p)]
  | .push _ => pushStore s
  | .pushPsw => pushStore s
  | .call _ => pushStore s
  | .ccc cc _ => if condHolds cc s.flags then pushStore s else []
  | .rst _ => pushStore s
  | .xthl => [s.sp, s.sp + 1]
  | .lxi _ _ | .lda _ | .lhld _ | .ldax _ | .xchg | .alu _ _ | .aluImm _ _ | .inx _ | .dcx _ | .dad _ | .daa | .rlc
  | .rrc | .ral | .rar | .cma | .cmc | .stc | .jmp _ | .jcc _ _ | .ret | .rcc _ | .pchl | .pop _ | .popPsw | .sphl
  | .inPort _ | .outPort _ | .ei | .di | .hlt | .nop | .unsupported _ => []

/-- A cycle count that depends on whether an 8-bit operand is a register or M (R320). -/
def operandCycles (o : Operand) (register memory : Nat) : Nat :=
  match o with
  | .reg _ => register
  | .mem => memory

end Sys2Proof.Machine

namespace Sys2Proof

/-- The encoding line of an instruction rule: these bytes decode to the instruction and nothing is left over. -/
def Instr.encodedAs (i : Instr) (bytes : List Byte) : Prop := decode bytes = .ok (i, [])

/-- The cycles line of an instruction rule, with the default table of R320: the count when its condition is false and when it is true
(equal for an instruction without a condition). -/
def Instr.costs (i : Instr) (notTaken taken : Nat) : Prop :=
  ∀ c : Config, c.cycleOverrides = [] →
    Machine.cyclesOf c i.opcode false = notTaken ∧ Machine.cyclesOf c i.opcode true = taken

end Sys2Proof
end

