-- ==== Sys2Proof/Safety.lean ====
section
/-! DEFINITION. The terms claims use: when the machine takes steps, what a safe run is, and the invariant of the machine. -/

namespace Sys2Proof.Machine

/-- The precondition of a step (60_exceptions.md R250, R271): no fatal error so far and the run not stopped. -/
def State.live (s : State) : Prop := s.fault = none ∧ s.run = .running

/-- The coming step fetches an instruction: it is no interrupt entry and no halted step (R250). -/
def State.fetching (s : State) : Prop := s.live ∧ s.pending = none ∧ s.halted = false

/-- A run of `k` steps that goes wrong nowhere: "a claim about a program must take 'no fault' as a premise or prove it" (R240). -/
def runsSafely (k : Nat) (s : State) : Prop := ∃ t, Host.Core.run Sys2Proof.core k s = .next t ∧ t.fault = none

/-- What every step keeps. -/
structure Inv (s : State) : Prop where
  /-- Memory is in its canonical form: 16-bit addresses (R60). -/
  memWf : Memory.wf s.mem = true
  /-- The input snapshots are in their canonical form: 8-bit port numbers (R61). -/
  inputWf : Cells.portWf s.input = true
  /-- The sound latches are in their canonical form. -/
  latchWf : Cells.portWf s.soundLatch = true
  /-- "only the bits set in SoundMask[p] are meaningful, the others are always 0" (R43); outside the domain of the mask, all. -/
  latchMasked : ∀ p : Byte, s.latchAt p &&& ~~~((maskAt s.config p).getD 0) = 0
  /-- A vector is latched only while interrupts are enabled (R252, R254). -/
  pendingEnabled : s.pending ≠ none → s.ie = true
  /-- A vector is pending only between a scheduler event, which clears `half_cycles`, and the next step (R254, R271). -/
  pendingFresh : s.pending ≠ none → s.halfCycles = 0
  /-- The half-frame counter stays below the budget between steps, for parameters as U10 wants them (R271). -/
  halfBelow : s.config.wf = true → s.halfCycles < s.config.halfBudget
  /-- The cycles of this half are among all cycles (R45, R46, R271). -/
  halfInTotal : s.halfCycles ≤ s.totalCycles
  /-- A fatal error comes only from a fetch, so no vector is pending with it and the core is not halted (R241, R250). -/
  fatalFromFetch : s.fault ≠ none → s.pending = none ∧ s.halted = false

end Sys2Proof.Machine
end

