-- ==== Sys2Proof/Certificates/Slice0/Obligations.lean ====
section
/-! DEFINITION. The statements for the provers. Each names the rules of the spec it formalises; a "rule head" is the encoding line and the
cycles line of an instruction rule (`Instr.encodedAs`, `Instr.costs`). exec acts on a state whose PC is already `next` (00_scope.md R18). -/

open Sys2Proof Sys2Proof.Machine

/-! ## Encoding -/

/-- Decode after encode, for all 245 constructors with every operand value (R91 to R101, R105, R110). -/
def Obligations.DecodeOfEncodeIsSame : Prop :=
  ∀ (i : Instr) (rest : List Byte), i.wellFormed = true → decode (encode i ++ rest) = .ok (i, rest)

/-- Encode after decode: for all three bytes, the instruction decoded encodes to as many of them as the length list R105 says (an
unsupported byte to itself alone). -/
def Obligations.EncodeOfDecodeIsSame : Prop :=
  ∀ op b2 b3 : Byte, encode (decodeBytes op b2 b3) = [op, b2, b3].take (max 1 (opcodeLength op))

/-- Words written out from the spec's encodings decode to the instructions they stand for. -/
def Obligations.SpecWordsDecode : Prop :=
  decode [0x41] = .ok (.movBC, []) ∧ decode [0x36, 0xFF] = .ok (.mviM 0xFF, []) ∧
    decode [0x21, 0x34, 0x12] = .ok (.lxiH 0x1234, []) ∧ decode [0x9D] = .ok (.sbbL, []) ∧
    decode [0xFE, 0x40] = .ok (.cpi 0x40, []) ∧ decode [0x1F] = .ok (.rar, []) ∧
    decode [0xDC, 0x00, 0x04] = .ok (.cc 0x0400, []) ∧ decode [0xD7] = .ok (.rst2, []) ∧
    decode [0xF5] = .ok (.pushPsw, []) ∧ decode [0xD3, 0x02] = .ok (.outPort 0x02, []) ∧
    decode [0x76] = .ok (.hlt, []) ∧ decode [0x08] = .ok (.unsupported 0x08, [])

/-- R103 (with the twelve bytes of R102): outside `ModeledOpcodes` the result is unsupported whatever the map says, inside it is the map's
entry; the map's entry is unsupported for the twelve bytes and no other, whatever the operand bytes. -/
def Obligations.DecodeUnsupported : Prop :=
  (∀ (dis : List Byte) (op b2 b3 : Byte),
    (op ∈ dis → decodeModeled dis op b2 b3 = .unsupported op) ∧
    (op ∉ dis → decodeModeled dis op b2 b3 = decodeBytes op b2 b3)) ∧
  ∀ op b2 b3 x : Byte, decodeBytes op b2 b3 = .unsupported x ↔ (op = x ∧ op ∈ unsupportedBytes)

/-- What `withFetchWord` is for (log 5): an instruction given by a table row's bits is the one the next step fetches, from any state. -/
def Obligations.PlacedWordIsFetched : Prop :=
  ∀ (s : State) (nbits w : Nat) (i : Instr), decodeTableWord nbits w = some i →
    (s.withFetchWord nbits w).fetching ∧ (s.withFetchWord nbits w).fetched = i ∧ (s.withFetchWord nbits w).pc = s.pc

/-! ## Data transfer -/

/-- R120, R121, R122: MOV between registers, from M, to M. The byte 0x76 is no MOV. -/
def Obligations.MovCopies : Prop :=
  (∀ (i : Instr) (dst src : Reg), i.form = .mov (.reg dst) (.reg src) →
    i.encodedAs [octal 0b01 dst.code src.code] ∧ i.costs 5 5 ∧ ∀ s, exec i s = .next (s.setReg dst (s.reg src))) ∧
  (∀ (i : Instr) (dst : Reg), i.form = .mov (.reg dst) .mem →
    i.encodedAs [octal 0b01 dst.code 0b110] ∧ i.costs 7 7 ∧ ∀ s, exec i s = .next (s.setReg dst (s.read8 s.hl))) ∧
  (∀ (i : Instr) (src : Reg), i.form = .mov .mem (.reg src) →
    i.encodedAs [octal 0b01 0b110 src.code] ∧ i.costs 7 7 ∧ ∀ s, exec i s = .next (s.write8 s.hl (s.reg src))) ∧
  Instr.hlt.encodedAs [octal 0b01 0b110 0b110]

/-- R123, R124: MVI to a register and to M. -/
def Obligations.MviLoadsImmediate : Prop :=
  (∀ (i : Instr) (dst : Reg) (d8 : Byte), i.form = .mvi (.reg dst) d8 →
    i.encodedAs [octal 0b00 dst.code 0b110, d8] ∧ i.costs 7 7 ∧ ∀ s, exec i s = .next (s.setReg dst d8)) ∧
  ∀ d8 : Byte, (Instr.mviM d8).encodedAs [0x36, d8] ∧ (Instr.mviM d8).costs 10 10 ∧
    ∀ s, exec (.mviM d8) s = .next (s.write8 s.hl d8)

/-- R125: LXI writes byte 3 to the high and byte 2 to the low register of the pair, or both to SP. -/
def Obligations.LxiLoadsPair : Prop :=
  ∀ (i : Instr) (p : Pair) (hi lo : Byte), i.form = .lxi p (word16 hi lo) →
    i.encodedAs [pairByte 0b00 p.code 0b0001, lo, hi] ∧ i.costs 10 10 ∧
    ∀ s, exec i s = .next (match p with
      | .bc => (s.setReg .b hi).setReg .c lo
      | .de => (s.setReg .d hi).setReg .e lo
      | .hl => (s.setReg .h hi).setReg .l lo
      | .sp => s.setSp (word16 hi lo))

/-- R126 to R129: LDA, STA, LHLD, SHLD. -/
def Obligations.DirectLoadsAndStores : Prop :=
  ∀ a16 : Word,
    ((Instr.lda a16).encodedAs [0x3A, loByte a16, hiByte a16] ∧ (Instr.lda a16).costs 13 13 ∧
      ∀ s, exec (.lda a16) s = .next (s.setReg .a (s.read8 a16))) ∧
    ((Instr.sta a16).encodedAs [0x32, loByte a16, hiByte a16] ∧ (Instr.sta a16).costs 13 13 ∧
      ∀ s, exec (.sta a16) s = .next (s.write8 a16 (s.reg .a))) ∧
    ((Instr.lhld a16).encodedAs [0x2A, loByte a16, hiByte a16] ∧ (Instr.lhld a16).costs 16 16 ∧
      ∀ s, exec (.lhld a16) s = .next ((s.setReg .l (s.read8 a16)).setReg .h (s.read8 (a16 + 1)))) ∧
    ((Instr.shld a16).encodedAs [0x22, loByte a16, hiByte a16] ∧ (Instr.shld a16).costs 16 16 ∧
      ∀ s, exec (.shld a16) s = .next ((s.write8 a16 (s.reg .l)).write8 (a16 + 1) (s.reg .h)))

/-- R130 to R132: LDAX and STAX through BC and DE, XCHG. -/
def Obligations.IndirectLoadsStoresExchange : Prop :=
  (Instr.ldaxB.encodedAs [0x0A] ∧ Instr.ldaxB.costs 7 7 ∧ ∀ s, exec .ldaxB s = .next (s.setReg .a (s.read8 s.bc))) ∧
  (Instr.ldaxD.encodedAs [0x1A] ∧ Instr.ldaxD.costs 7 7 ∧ ∀ s, exec .ldaxD s = .next (s.setReg .a (s.read8 s.de))) ∧
  (Instr.staxB.encodedAs [0x02] ∧ Instr.staxB.costs 7 7 ∧ ∀ s, exec .staxB s = .next (s.write8 s.bc (s.reg .a))) ∧
  (Instr.staxD.encodedAs [0x12] ∧ Instr.staxD.costs 7 7 ∧ ∀ s, exec .staxD s = .next (s.write8 s.de (s.reg .a))) ∧
  (Instr.xchg.encodedAs [0xEB] ∧ Instr.xchg.costs 4 4 ∧
    ∀ s, exec .xchg s = .next
      ((((s.setReg .h (s.reg .d)).setReg .d (s.reg .h)).setReg .l (s.reg .e)).setReg .e (s.reg .l)))

/-! ## Arithmetic -/

/-- R140, with P by R17 and R31: the result and the five flags of an 8-bit addition with carry-in, from the sum in naturals; P is 1
exactly when the number of 1 bits of the result is even. -/
def Obligations.AddResultAndFlags : Prop :=
  ∀ (a b : Byte) (c : Bool), let sum := a.toNat + b.toNat + (if c then 1 else 0); let r := add8 a b c
    r.value.toNat = sum % 256 ∧ (r.flags.cy = true ↔ sum > 0xFF) ∧
    (r.flags.ac = true ↔ a.toNat % 16 + b.toNat % 16 + (if c then 1 else 0) > 0xF) ∧
    (r.flags.z = true ↔ r.value.toNat = 0) ∧ (r.flags.s = true ↔ 128 ≤ r.value.toNat) ∧
    (r.flags.p = true ↔ ((List.range 8).countP fun k => r.value.toNat.testBit k) % 2 = 0) ∧
    r.flags.p = parity r.value

/-- R141 (CY as the borrow and AC as the adder's nibble carry are the spec's decision D4, log 12): the result and the five flags of an
8-bit subtraction with borrow-in; and "Equivalently sub8(a, b, c) =
add8(a, (~b) mod 256, 1 - c) with CY complemented afterwards". -/
def Obligations.SubResultAndFlags : Prop :=
  ∀ (a b : Byte) (c : Bool), let bor := if c then 1 else 0; let r := sub8 a b c
    r.value.toNat = (a.toNat + 512 - b.toNat - bor) % 256 ∧ (r.flags.cy = true ↔ a.toNat < b.toNat + bor) ∧
    (r.flags.ac = true ↔ a.toNat % 16 + (15 - b.toNat % 16) + (1 - bor) > 0xF) ∧
    (r.flags.z = true ↔ r.value.toNat = 0) ∧ (r.flags.s = true ↔ 128 ≤ r.value.toNat) ∧
    (r.flags.p = true ↔ ((List.range 8).countP fun k => r.value.toNat.testBit k) % 2 = 0) ∧
    r.flags.p = parity r.value ∧
    r = { value := (add8 a (~~~b) (!c)).value,
          flags := { (add8 a (~~~b) (!c)).flags with cy := !(add8 a (~~~b) (!c)).flags.cy } }

/-- R142 to R147: ADD and ADC of a register or M, ADI, ACI. -/
def Obligations.AddInstructions : Prop :=
  (∀ (i : Instr) (src : Operand), i.form = .alu .add src →
    i.encodedAs [octal 0b10 0 src.code] ∧ i.costs (operandCycles src 4 7) (operandCycles src 4 7) ∧
    ∀ s, exec i s = .next (s.setAcc (add8 (s.reg .a) (s.operand src) false))) ∧
  (∀ (i : Instr) (src : Operand), i.form = .alu .adc src →
    i.encodedAs [octal 0b10 1 src.code] ∧ i.costs (operandCycles src 4 7) (operandCycles src 4 7) ∧
    ∀ s, exec i s = .next (s.setAcc (add8 (s.reg .a) (s.operand src) s.flags.cy))) ∧
  ∀ d8 : Byte,
    ((Instr.adi d8).encodedAs [0xC6, d8] ∧ (Instr.adi d8).costs 7 7 ∧
      ∀ s, exec (.adi d8) s = .next (s.setAcc (add8 (s.reg .a) d8 false))) ∧
    ((Instr.aci d8).encodedAs [0xCE, d8] ∧ (Instr.aci d8).costs 7 7 ∧
      ∀ s, exec (.aci d8) s = .next (s.setAcc (add8 (s.reg .a) d8 s.flags.cy)))

/-- R148 to R153: SUB and SBB of a register or M, SUI, SBI. -/
def Obligations.SubInstructions : Prop :=
  (∀ (i : Instr) (src : Operand), i.form = .alu .sub src →
    i.encodedAs [octal 0b10 2 src.code] ∧ i.costs (operandCycles src 4 7) (operandCycles src 4 7) ∧
    ∀ s, exec i s = .next (s.setAcc (sub8 (s.reg .a) (s.operand src) false))) ∧
  (∀ (i : Instr) (src : Operand), i.form = .alu .sbb src →
    i.encodedAs [octal 0b10 3 src.code] ∧ i.costs (operandCycles src 4 7) (operandCycles src 4 7) ∧
    ∀ s, exec i s = .next (s.setAcc (sub8 (s.reg .a) (s.operand src) s.flags.cy))) ∧
  ∀ d8 : Byte,
    ((Instr.sui d8).encodedAs [0xD6, d8] ∧ (Instr.sui d8).costs 7 7 ∧
      ∀ s, exec (.sui d8) s = .next (s.setAcc (sub8 (s.reg .a) d8 false))) ∧
    ((Instr.sbi d8).encodedAs [0xDE, d8] ∧ (Instr.sbi d8).costs 7 7 ∧
      ∀ s, exec (.sbi d8) s = .next (s.setAcc (sub8 (s.reg .a) d8 s.flags.cy)))

/-- R154 to R157: INR and DCR of a register or M: the operand wraps, Z S P from the result, AC from the old low nibble, CY kept. -/
def Obligations.IncrementDecrement : Prop :=
  (∀ (i : Instr) (o : Operand), i.form = .inr o →
    i.encodedAs [octal 0b00 o.code 0b100] ∧ i.costs (operandCycles o 5 10) (operandCycles o 5 10) ∧
    ∀ s, let v := s.operand o; exec i s = .next ((s.setOperand o (v + 1)).setFlags
      { z := decide (v + 1 = 0), s := (v + 1).getLsbD 7, p := parity (v + 1),
        ac := decide (v.toNat % 16 = 15), cy := s.flags.cy })) ∧
  (∀ (i : Instr) (o : Operand), i.form = .dcr o →
    i.encodedAs [octal 0b00 o.code 0b101] ∧ i.costs (operandCycles o 5 10) (operandCycles o 5 10) ∧
    ∀ s, let v := s.operand o; exec i s = .next ((s.setOperand o (v - 1)).setFlags
      { z := decide (v - 1 = 0), s := (v - 1).getLsbD 7, p := parity (v - 1),
        ac := decide (v.toNat % 16 ≠ 0), cy := s.flags.cy }))

/-- R158 to R160: INX and DCX of BC, DE, HL and SP, modulo 2^16, no flag; DAD adds to HL modulo 2^16 and writes CY alone. -/
def Obligations.PairArithmetic : Prop :=
  (∀ (i : Instr) (p : Pair), i.form = .inx p →
    i.encodedAs [pairByte 0b00 p.code 0b0011] ∧ i.costs 5 5 ∧ ∀ s, exec i s = .next (s.setPair p (s.pair p + 1))) ∧
  (∀ (i : Instr) (p : Pair), i.form = .dcx p →
    i.encodedAs [pairByte 0b00 p.code 0b1011] ∧ i.costs 5 5 ∧ ∀ s, exec i s = .next (s.setPair p (s.pair p - 1))) ∧
  ∀ (i : Instr) (p : Pair), i.form = .dad p →
    i.encodedAs [pairByte 0b00 p.code 0b1001] ∧ i.costs 10 10 ∧
    ∀ s, exec i s = .next ((s.setPair .hl (s.hl + s.pair p)).setFlags
      { s.flags with cy := decide (s.hl.toNat + (s.pair p).toNat > 0xFFFF) })

/-- R161, whose conditions are the spec's decision D5 (log 12): DAA by the pseudocode, in naturals. -/
def Obligations.DaaFollowsPseudocode : Prop :=
  Instr.daa.encodedAs [0x27] ∧ Instr.daa.costs 4 4 ∧
  (∀ s, exec .daa s = .next (s.setAcc (daa8 (s.reg .a) s.flags))) ∧
  ∀ (a : Byte) (f : Flags), let lo := a.toNat % 16; let hi := a.toNat / 16
    let high := hi > 9 ∨ f.cy = true ∨ (hi ≥ 9 ∧ lo > 9)
    let corr := (if lo > 9 ∨ f.ac = true then 0x06 else 0) + (if high then 0x60 else 0)
    let r := daa8 a f
    r.value.toNat = (a.toNat + corr) % 256 ∧ (r.flags.cy = true ↔ f.cy = true ∨ high) ∧
    (r.flags.ac = true ↔ lo + corr % 16 > 0xF) ∧ (r.flags.z = true ↔ r.value.toNat = 0) ∧
    (r.flags.s = true ↔ 128 ≤ r.value.toNat) ∧ r.flags.p = parity r.value

/-- Section 5 of 41_arithmetic.md: the one addition of R161 "is the two-step algorithm (add 6 to the low nibble if it is above 9 or AC is
set; then add 6 to the high nibble if it is now above 9 or CY is set)". -/
def Obligations.DaaIsTwoStepAlgorithm : Prop :=
  ∀ (a : Byte) (f : Flags), let step1 := if a.toNat % 16 > 9 ∨ f.ac = true then a.toNat + 6 else a.toNat
    let step2 := if step1 / 16 > 9 ∨ f.cy = true then step1 + 0x60 else step1
    (daa8 a f).value.toNat = step2 % 256 ∧
    ((daa8 a f).flags.cy = true ↔ step1 / 16 > 9 ∨ f.cy = true)

/-- The glossary R19, "post-addition correction producing a valid packed binary-coded-decimal byte": ADD of two packed decimal numbers
(with or without a carry-in, as ADC) and then DAA gives the packed decimal sum, with CY for a sum above 99. -/
def Obligations.DaaCorrectsDecimalSum : Prop :=
  ∀ (x y : Fin 100) (c : Bool) (n : Nat), n = x.val + y.val + (if c then 1 else 0) →
    let packed := fun k : Nat => BitVec.ofNat 8 (k / 10 * 16 + k % 10)
    let sum := add8 (packed x.val) (packed y.val) c
    (daa8 sum.value sum.flags).value = packed (n % 100) ∧
    ((daa8 sum.value sum.flags).flags.cy = true ↔ n ≥ 100)

/-! ## Logical, compare, rotate, carry -/

/-- R170 to R179: ANA, XRA, ORA of a register or M and ANI, XRI, ORI: A gets the result, Z S P from it, CY and AC cleared. -/
def Obligations.LogicInstructions : Prop :=
  let logic := fun (v : Byte) (s : State) => (s.setReg .a v).setFlags
    { z := decide (v = 0), s := v.getLsbD 7, p := parity v, cy := false, ac := false }
  (∀ (i : Instr) (src : Operand), i.form = .alu .ana src →
    i.encodedAs [octal 0b10 4 src.code] ∧ i.costs (operandCycles src 4 7) (operandCycles src 4 7) ∧
    ∀ s, exec i s = .next (logic (s.reg .a &&& s.operand src) s)) ∧
  (∀ (i : Instr) (src : Operand), i.form = .alu .xra src →
    i.encodedAs [octal 0b10 5 src.code] ∧ i.costs (operandCycles src 4 7) (operandCycles src 4 7) ∧
    ∀ s, exec i s = .next (logic (s.reg .a ^^^ s.operand src) s)) ∧
  (∀ (i : Instr) (src : Operand), i.form = .alu .ora src →
    i.encodedAs [octal 0b10 6 src.code] ∧ i.costs (operandCycles src 4 7) (operandCycles src 4 7) ∧
    ∀ s, exec i s = .next (logic (s.reg .a ||| s.operand src) s)) ∧
  ∀ d8 : Byte,
    ((Instr.ani d8).encodedAs [0xE6, d8] ∧ (Instr.ani d8).costs 7 7 ∧
      ∀ s, exec (.ani d8) s = .next (logic (s.reg .a &&& d8) s)) ∧
    ((Instr.xri d8).encodedAs [0xEE, d8] ∧ (Instr.xri d8).costs 7 7 ∧
      ∀ s, exec (.xri d8) s = .next (logic (s.reg .a ^^^ d8) s)) ∧
    ((Instr.ori d8).encodedAs [0xF6, d8] ∧ (Instr.ori d8).costs 7 7 ∧
      ∀ s, exec (.ori d8) s = .next (logic (s.reg .a ||| d8) s))

/-- R180 to R182 (CY as the borrow: the spec's decision D4): CMP of a register or M and CPI write the flags of the subtraction and nothing
else: Z 1 means equal, CY 1 means A is below the operand, unsigned. -/
def Obligations.CompareInstructions : Prop :=
  (∀ (i : Instr) (src : Operand), i.form = .alu .cmp src →
    i.encodedAs [octal 0b10 7 src.code] ∧ i.costs (operandCycles src 4 7) (operandCycles src 4 7) ∧
    ∀ s, exec i s = .next (s.setFlags (sub8 (s.reg .a) (s.operand src) false).flags)) ∧
  (∀ d8 : Byte, (Instr.cpi d8).encodedAs [0xFE, d8] ∧ (Instr.cpi d8).costs 7 7 ∧
    ∀ s, exec (.cpi d8) s = .next (s.setFlags (sub8 (s.reg .a) d8 false).flags)) ∧
  ∀ a b : Byte, ((sub8 a b false).flags.z = true ↔ a = b) ∧ ((sub8 a b false).flags.cy = true ↔ a.toNat < b.toNat)

/-- R183 to R186: the four rotates write A and CY only; the values in naturals, as the pseudocode has them. -/
def Obligations.RotateInstructions : Prop :=
  let low := fun b : Bool => if b then 1 else 0
  let rot := fun (s : State) (v : Nat) (cy : Bool) =>
    (s.setReg .a (BitVec.ofNat 8 v)).setFlags { s.flags with cy := cy }
  (Instr.rlc.encodedAs [0x07] ∧ Instr.rlc.costs 4 4 ∧
    ∀ s, let a := s.reg .a; let b := a.getLsbD 7
      exec .rlc s = .next (rot s (((a.toNat <<< 1) &&& 0xFF) ||| low b) b)) ∧
  (Instr.rrc.encodedAs [0x0F] ∧ Instr.rrc.costs 4 4 ∧
    ∀ s, let a := s.reg .a; let b := a.getLsbD 0
      exec .rrc s = .next (rot s ((a.toNat >>> 1) ||| (low b <<< 7)) b)) ∧
  (Instr.ral.encodedAs [0x17] ∧ Instr.ral.costs 4 4 ∧
    ∀ s, let a := s.reg .a
      exec .ral s = .next (rot s (((a.toNat <<< 1) &&& 0xFF) ||| low s.flags.cy) (a.getLsbD 7))) ∧
  (Instr.rar.encodedAs [0x1F] ∧ Instr.rar.costs 4 4 ∧
    ∀ s, let a := s.reg .a
      exec .rar s = .next (rot s ((a.toNat >>> 1) ||| (low s.flags.cy <<< 7)) (a.getLsbD 0)))

/-- R187 to R189: CMA complements A and writes no flag; CMC complements CY; STC sets it. -/
def Obligations.ComplementAndCarry : Prop :=
  (Instr.cma.encodedAs [0x2F] ∧ Instr.cma.costs 4 4 ∧
    ∀ s, exec .cma s = .next (s.setReg .a (BitVec.ofNat 8 (255 - (s.reg .a).toNat)))) ∧
  (Instr.cmc.encodedAs [0x3F] ∧ Instr.cmc.costs 4 4 ∧
    ∀ s, exec .cmc s = .next (s.setFlags { s.flags with cy := !s.flags.cy })) ∧
  (Instr.stc.encodedAs [0x37] ∧ Instr.stc.costs 4 4 ∧
    ∀ s, exec .stc s = .next (s.setFlags { s.flags with cy := true }))

/-! ## Control transfer -/

/-- R95, R200, R201, R207: JMP, the eight conditional jumps (taken and not taken), PCHL; bits 2:1 of the condition code choose Z, CY, P or
S and bit 0 the value it must have. A Jcc counts as taken exactly when its condition holds. -/
def Obligations.JumpInstructions : Prop :=
  (∀ (cc : Cond) (f : Flags),
    condHolds cc f = (([f.z, f.cy, f.p, f.s].getD (cc.code.toNat / 2) false) == decide (cc.code.toNat % 2 = 1))) ∧
  (∀ a16 : Word, (Instr.jmp a16).encodedAs [0xC3, loByte a16, hiByte a16] ∧ (Instr.jmp a16).costs 10 10 ∧
    ∀ s, exec (.jmp a16) s = .next (s.setPc a16)) ∧
  (∀ (i : Instr) (cc : Cond) (a16 : Word), i.form = .jcc cc a16 →
    i.encodedAs [octal 0b11 cc.code 0b010, loByte a16, hiByte a16] ∧ i.costs 10 10 ∧
    (∀ f, conditionTaken i f = condHolds cc f) ∧
    ∀ s, exec i s = .next (if condHolds cc s.flags then s.setPc a16 else s)) ∧
  (Instr.pchl.encodedAs [0xE9] ∧ Instr.pchl.costs 5 5 ∧ ∀ s, exec .pchl s = .next (s.setPc s.hl))

/-- R202, R203, R206: CALL, the eight conditional calls, the eight restarts. A call pushes the PC, which is `next`: high byte at SP - 1,
low byte at SP - 2; RST goes to 8 * n. A Ccc counts as taken exactly when its condition holds. -/
def Obligations.CallInstructions : Prop :=
  let called := fun (s : State) (target : Word) =>
    (((s.write8 (s.sp - 1) (hiByte s.pc)).write8 (s.sp - 2) (loByte s.pc)).setSp (s.sp - 2)).setPc target
  (∀ a16 : Word, (Instr.call a16).encodedAs [0xCD, loByte a16, hiByte a16] ∧ (Instr.call a16).costs 17 17 ∧
    ∀ s, exec (.call a16) s = .next (called s a16)) ∧
  (∀ (i : Instr) (cc : Cond) (a16 : Word), i.form = .ccc cc a16 →
    i.encodedAs [octal 0b11 cc.code 0b100, loByte a16, hiByte a16] ∧ i.costs 11 17 ∧
    (∀ f, conditionTaken i f = condHolds cc f) ∧
    ∀ s, exec i s = .next (if condHolds cc s.flags then called s a16 else s)) ∧
  (∀ (i : Instr) (n : BitVec 3), i.form = .rst n →
    i.encodedAs [octal 0b11 n 0b111] ∧ i.costs 11 11 ∧
    ∀ s, exec i s = .next (called s (BitVec.ofNat 16 (8 * n.toNat))))

/-- R204, R205: RET and the eight conditional returns pop the PC: low byte at SP, high byte at SP + 1. An Rcc counts
as taken exactly when its condition holds. -/
def Obligations.ReturnInstructions : Prop :=
  let returned := fun s : State => (s.setSp (s.sp + 2)).setPc (word16 (s.read8 (s.sp + 1)) (s.read8 s.sp))
  (Instr.ret.encodedAs [0xC9] ∧ Instr.ret.costs 10 10 ∧ ∀ s, exec .ret s = .next (returned s)) ∧
  (∀ (i : Instr) (cc : Cond), i.form = .rcc cc →
    i.encodedAs [octal 0b11 cc.code 0b000] ∧ i.costs 5 11 ∧
    (∀ f, conditionTaken i f = condHolds cc f) ∧
    ∀ s, exec i s = .next (if condHolds cc s.flags then returned s else s))

/-! ## Stack, ports, control -/

/-- R222, R223: PUSH and POP of BC, DE and HL. -/
def Obligations.PushPopPairs : Prop :=
  let pushed := fun (s : State) (hi lo : Byte) => ((s.write8 (s.sp - 1) hi).write8 (s.sp - 2) lo).setSp (s.sp - 2)
  let popped := fun (s : State) (hi lo : Reg) =>
    ((s.setReg lo (s.read8 s.sp)).setReg hi (s.read8 (s.sp + 1))).setSp (s.sp + 2)
  (∀ (i : Instr) (p : StackPair), i.form = .push p →
    i.encodedAs [pairByte 0b11 p.code 0b0101] ∧ i.costs 11 11 ∧
    ∀ s, exec i s = .next (match p with
      | .bc => pushed s (s.reg .b) (s.reg .c)
      | .de => pushed s (s.reg .d) (s.reg .e)
      | .hl => pushed s (s.reg .h) (s.reg .l))) ∧
  (∀ (i : Instr) (p : StackPair), i.form = .pop p →
    i.encodedAs [pairByte 0b11 p.code 0b0001] ∧ i.costs 10 10 ∧
    ∀ s, exec i s = .next (match p with
      | .bc => popped s .b .c
      | .de => popped s .d .e
      | .hl => popped s .h .l))

/-- R224, R225 (and the layout R35, the spec's decision D3): PUSH PSW stores A and the flag byte {S, Z, 0, AC, 0, P, 1, CY}; POP PSW loads
them, ignoring bits 5, 3 and 1. -/
def Obligations.PushPopPsw : Prop :=
  let bit := fun (b : Bool) (k : Nat) => if b then 2 ^ k else 0
  (Instr.pushPsw.encodedAs [0xF5] ∧ Instr.pushPsw.costs 11 11 ∧
    ∀ s, exec .pushPsw s = .next (((s.write8 (s.sp - 1) (s.reg .a)).write8 (s.sp - 2)
      (BitVec.ofNat 8 (bit s.flags.s 7 + bit s.flags.z 6 + bit s.flags.ac 4 + bit s.flags.p 2 + 2 + bit s.flags.cy 0))).setSp
        (s.sp - 2))) ∧
  (Instr.popPsw.encodedAs [0xF1] ∧ Instr.popPsw.costs 10 10 ∧
    ∀ s, let f := s.read8 s.sp
      exec .popPsw s = .next (((s.setReg .a (s.read8 (s.sp + 1))).setFlags
        { s := f.getLsbD 7, z := f.getLsbD 6, ac := f.getLsbD 4, p := f.getLsbD 2, cy := f.getLsbD 0 }).setSp (s.sp + 2)))

/-- R226, R227: XTHL exchanges HL with the two bytes at SP and leaves SP; SPHL loads SP from HL. -/
def Obligations.XthlSphl : Prop :=
  (Instr.xthl.encodedAs [0xE3] ∧ Instr.xthl.costs 18 18 ∧
    ∀ s, exec .xthl s = .next ((((s.write8 s.sp (s.reg .l)).write8 (s.sp + 1) (s.reg .h)).setReg .l (s.read8 s.sp)).setReg .h
      (s.read8 (s.sp + 1)))) ∧
  (Instr.sphl.encodedAs [0xF9] ∧ Instr.sphl.costs 5 5 ∧ ∀ s, exec .sphl s = .next (s.setSp s.hl))

/-- R220, R221 (high byte above low byte: the spec's decision D2): what a push leaves in memory and in SP, and that a pop after it gives
the value and the SP back, provided neither byte falls under `RomWritePolicy = ignore`. -/
def Obligations.PopAfterPush : Prop :=
  ∀ (s : State) (v : Word), (hiByte v).toNat = v.toNat / 256 ∧ (loByte v).toNat = v.toNat % 256 ∧
    (s.push16 v).sp = s.sp - 2 ∧ ((s.push16 v).popped).sp = s.sp ∧
    (dropsWrite s.config (s.sp - 1) = false → dropsWrite s.config (s.sp - 2) = false →
      (s.push16 v).popValue = v ∧ (s.push16 v).read8 (s.sp - 1) = hiByte v ∧ (s.push16 v).read8 (s.sp - 2) = loByte v)

/-- R64 to R67: a byte written is read back unless it is dropped, every other byte is as it was, words are little-endian (the spec's
decision D2) and wrap, and nothing but memory changes. -/
def Obligations.MemoryReadWrite : Prop :=
  ∀ (s : State) (a b : Word) (v : Byte) (w : Word),
    ((s.write8 a v).read8 b =
      if b = a ∧ ¬ (a.toNat < s.config.programRegionSize ∧ s.config.romWritePolicy = .ignore) then v else s.read8 b) ∧
    { s.write8 a v with mem := s.mem } = s ∧
    (s.read16 a).toNat = (s.read8 (a + 1)).toNat * 256 + (s.read8 a).toNat ∧
    s.write16 a w = (s.write8 a (BitVec.ofNat 8 (w.toNat % 256))).write8 (a + 1) (BitVec.ofNat 8 (w.toNat / 256))

/-- R228, R281 to R283, R289: IN writes A with the port's byte and nothing else: bits `15 - s : 8 - s` of the shift register from the
shift-read port, the snapshot from an input port, zero from any other. -/
def Obligations.InReadsPort : Prop :=
  ∀ p : Byte, (Instr.inPort p).encodedAs [0xDB, p] ∧ (Instr.inPort p).costs 10 10 ∧
    ∀ s : State, ∃ v : Byte, exec (.inPort p) s = .next (s.setReg .a v) ∧
      (p = s.config.shiftReadPort →
        ∀ k, k < 8 → v.getLsbD k = s.shiftRegister.getLsbD (8 - s.shiftAmount.toNat + k)) ∧
      (p ≠ s.config.shiftReadPort → p ∈ s.config.inputPorts → v = s.inputAt p) ∧
      (p ≠ s.config.shiftReadPort → p ∉ s.config.inputPorts → v = 0)

/-- R229, R284 to R286, R289: OUT to the shift-amount port stores bits 2:0 of A, to the shift-data port puts A above the old high byte, to
a port without a role does nothing; A and the flags stay. -/
def Obligations.OutWritesShiftPorts : Prop :=
  ∀ p : Byte, (Instr.outPort p).encodedAs [0xD3, p] ∧ (Instr.outPort p).costs 10 10 ∧
    ∀ s : State,
      (p = s.config.shiftAmountPort →
        exec (.outPort p) s = .next { s with shiftAmount := BitVec.ofNat 3 ((s.reg .a).toNat % 8) }) ∧
      (p ≠ s.config.shiftAmountPort → p = s.config.shiftDataPort →
        exec (.outPort p) s = .next { s with shiftRegister := word16 (s.reg .a) (hiByte s.shiftRegister) }) ∧
      (p ≠ s.config.shiftAmountPort → p ≠ s.config.shiftDataPort → maskAt s.config p = none →
        exec (.outPort p) s = .next s)

/-- R287: OUT to a sound port with mask `m`: the latch takes the masked value, the events appended are exactly the masked bits that went
0 to 1, in ascending order (the spec's decision D21); every other latch and every other field stays. -/
def Obligations.OutSoundEdges : Prop :=
  ∀ (p m : Byte) (s : State), p ≠ s.config.shiftAmountPort → p ≠ s.config.shiftDataPort → maskAt s.config p = some m →
    ∃ (t : State) (l : List SoundEvent), exec (.outPort p) s = .next t ∧
      t.latchAt p = s.reg .a &&& m ∧ (∀ q : Byte, q ≠ p → t.latchAt q = s.latchAt q) ∧
      t.soundEvents = s.soundEvents ++ l ∧ l.Pairwise (fun x y => x.bit < y.bit) ∧
      (∀ e : SoundEvent, e ∈ l ↔ e.port = p ∧ (s.reg .a &&& m).getLsbD e.bit.val = true ∧
        (s.latchAt p).getLsbD e.bit.val = false) ∧
      { t with soundLatch := s.soundLatch, soundEvents := s.soundEvents } = s

/-- R288: from a clear latch the writes 1, 0, 1 of one masked bit give exactly two events, and 1, 1, 1 gives one. -/
def Obligations.SoundToggleGivesTwoEvents : Prop :=
  ∀ (s : State) (p m : Byte) (k : Fin 8), p ≠ s.config.shiftAmountPort → p ≠ s.config.shiftDataPort →
    maskAt s.config p = some m → m.getLsbD k.val = true → s.latchAt p = 0 →
    let on : Byte := 1#8 <<< k.val
    (((s.portOut p on).portOut p 0).portOut p on).soundEvents = s.soundEvents ++ [⟨p, k⟩, ⟨p, k⟩] ∧
    (((s.portOut p on).portOut p on).portOut p on).soundEvents = s.soundEvents ++ [⟨p, k⟩]

/-- R286, R291: after data writes v1 and v2 the register is {v2, v1} whatever it held, so the read is determined by them and the amount;
with amount 3, v1 = 0xFF and v2 = 0x00 it is 0x07, and 0xF8 the other way round. -/
def Obligations.ShiftRegisterAfterTwoWrites : Prop :=
  ∀ (s : State) (v1 v2 : Byte), s.config.wf = true →
    let t := (s.portOut s.config.shiftDataPort v1).portOut s.config.shiftDataPort v2
    t.shiftRegister = word16 v2 v1 ∧ t.shiftAmount = s.shiftAmount ∧
    (s.shiftAmount = 3 → v1 = 0xFF → v2 = 0x00 → t.portIn s.config.shiftReadPort = 0x07) ∧
    (s.shiftAmount = 3 → v1 = 0x00 → v2 = 0xFF → t.portIn s.config.shiftReadPort = 0xF8)

/-- R230 to R233: EI (at once: the spec's decision D7), DI, HLT (whose bit is the spec's decision D9), NOP. -/
def Obligations.ControlInstructions : Prop :=
  (Instr.ei.encodedAs [0xFB] ∧ Instr.ei.costs 4 4 ∧ ∀ s, exec .ei s = .next { s with ie := true }) ∧
  (Instr.di.encodedAs [0xF3] ∧ Instr.di.costs 4 4 ∧ ∀ s, exec .di s = .next { s with ie := false }) ∧
  (Instr.hlt.encodedAs [0x76] ∧ Instr.hlt.costs 7 7 ∧ ∀ s, exec .hlt s = .next { s with halted := true }) ∧
  (Instr.nop.encodedAs [0x00] ∧ Instr.nop.costs 4 4 ∧ ∀ s, exec .nop s = .next s)

/-- R16, R240 (as a next state: the model's choice, log 6): the effect of a byte without an instruction is the fatal error with the PC and
the byte, and nothing else. -/
def Obligations.UnsupportedRaisesFatal : Prop :=
  ∀ (op : Byte) (s : State),
    exec (.unsupported op) s = .next { s with fault := some (.unsupportedOpcode s.pc op) }

/-! ## Frames -/

/-- R34: a flag that the summary R110 does not list for an instruction keeps its value. -/
def Obligations.FlagsFrame : Prop :=
  ∀ (i : Instr) (s t : State) (f : FlagName), exec i s = .next t → f ∉ flagsWritten i.form →
    t.flags.get f = s.flags.get f

/-- R14, R20 to R22: what is written to a register, the flags, SP, PC or a pair reads back, and nothing else changes; a pair is its two
registers, the first named in bits 15:8. R23, R26, R27: a general register that is no destination, SP where it is not written, and the
PC where the instruction does not set it, keep their values. -/
def Obligations.RegistersFrame : Prop :=
  (∀ (s : State) (r q : Reg) (v : Byte), (s.setReg r v).reg q = (if q = r then v else s.reg q) ∧
    { s.setReg r v with regs := s.regs } = s) ∧
  (∀ (s : State) (f : Flags) (v : Word), s.setFlags f = { s with flags := f } ∧ s.setSp v = { s with sp := v } ∧
    s.setPc v = { s with pc := v }) ∧
  (∀ s : State, s.bc.toNat = (s.reg .b).toNat * 256 + (s.reg .c).toNat ∧
    s.de.toNat = (s.reg .d).toNat * 256 + (s.reg .e).toNat ∧ s.hl.toNat = (s.reg .h).toNat * 256 + (s.reg .l).toNat ∧
    s.pair .bc = s.bc ∧ s.pair .de = s.de ∧ s.pair .hl = s.hl ∧ s.pair .sp = s.sp) ∧
  (∀ (s : State) (p q : Pair) (v : Word), (s.setPair p v).pair q = (if q = p then v else s.pair q) ∧
    (s.setPair p v).reg .a = s.reg .a ∧ { s.setPair p v with regs := s.regs, sp := s.sp } = s) ∧
  (∀ (s : State) (r : Reg) (v : Byte), s.operand (.reg r) = s.reg r ∧ s.operand .mem = s.read8 s.hl ∧
    s.setOperand (.reg r) v = s.setReg r v ∧ s.setOperand .mem v = s.write8 s.hl v) ∧
  (∀ (s : State) (r : AluResult), s.setAcc r = (s.setReg .a r.value).setFlags r.flags) ∧
  ∀ (i : Instr) (s t : State), exec i s = .next t →
    (∀ r : Reg, r ∉ regsWritten i.form → t.reg r = s.reg r) ∧
    (writesSp i.form = false → t.sp = s.sp) ∧ (writesPc i.form = false → t.pc = s.pc)

/-- R71: every byte of memory outside the bytes an instruction stores to reads as before (all of memory, if it stores to none). -/
def Obligations.MemoryFrame : Prop :=
  ∀ (i : Instr) (s t : State) (a : Word), exec i s = .next t → a ∉ storedAddresses s i.form → t.read8 a = s.read8 a

/-- R36, R37, R38, R39, R44, R45, R46, R49, R73: of the remaining state an instruction changes IE only if it is EI or DI, `halted` only if
it is HLT, `fault` only if it is no instruction, port state only if it is OUT, and never a pending vector, an input, what the audio
collaborator has received (log 21) or the scheduler's state. -/
def Obligations.SystemStateFrame : Prop :=
  ∀ (i : Instr) (s t : State), exec i s = .next t →
    (i ≠ .ei → i ≠ .di → t.ie = s.ie) ∧ (i ≠ .hlt → t.halted = s.halted) ∧
    ((∀ op, i ≠ .unsupported op) → t.fault = s.fault) ∧
    ((∀ p, i ≠ .outPort p) → t.shiftRegister = s.shiftRegister ∧ t.shiftAmount = s.shiftAmount ∧
      t.soundLatch = s.soundLatch ∧ t.soundEvents = s.soundEvents) ∧
    t.pending = s.pending ∧ t.input = s.input ∧ t.soundOutput = s.soundOutput ∧
    t.totalCycles = s.totalCycles ∧ t.halfCycles = s.halfCycles ∧ t.phase = s.phase ∧ t.run = s.run ∧
    t.config = s.config ∧ t.hostQueue = s.hostQueue ∧ t.yields = s.yields

/-! ## The step and the scheduler -/

/-- R26 (whose order is the spec's decision D22), R250, R271, with one step as one scheduler iteration (log 2): when the bytes at the PC
decode to an instruction, a step is exec of it on the state with the PC past it, and then, unless it raised the fatal error, the
scheduler's part with the instruction's cycles (R320: the count for "taken" is never the one of an instruction without a condition). -/
def Obligations.StepRunsDecodedInstruction : Prop :=
  (∀ (s t : State) (i : Instr) (rest : List Byte), s.fetching →
    s.read8 s.pc ∉ s.config.disabledOpcodes →
    decode [s.read8 s.pc, s.read8 (s.pc + 1), s.read8 (s.pc + 2)] = .ok (i, rest) →
    exec i (s.setPc (s.pc + BitVec.ofNat 16 i.length)) = .next t →
    (t.fault = none →
      step s = .next (t.schedule (cyclesOf s.config i.opcode (conditionTaken i s.flags)))) ∧
    (t.fault ≠ none → step s = .next t)) ∧
  ∀ (i : Instr) (f : Flags), (∀ cc a, i.form ≠ .jcc cc a) → (∀ cc a, i.form ≠ .ccc cc a) → (∀ cc, i.form ≠ .rcc cc) →
    conditionTaken i f = false

/-- R241 (with the model's choices log 2 and log 6): a step that fetches a byte without an instruction (one of the twelve, or one outside
`ModeledOpcodes`) records its address and the byte, and changes nothing else: not the PC, not a counter; and no other step sets `fault`. -/
def Obligations.UnsupportedStepIsPrecise : Prop :=
  (∀ s : State, s.fetching →
    (s.read8 s.pc ∈ unsupportedBytes ∨ s.read8 s.pc ∈ s.config.disabledOpcodes) →
    step s = .next { s with fault := some (.unsupportedOpcode s.pc (s.read8 s.pc)) }) ∧
  ∀ s t : State, step s = .next t → t.fault ≠ none →
    s.fetching ∧ (s.read8 s.pc ∈ unsupportedBytes ∨ s.read8 s.pc ∈ s.config.disabledOpcodes)

/-- R240, R276: after a fatal error, or when the run is stopped, no step is taken (the names of the stops are the model's: log 6, log 7). -/
def Obligations.NoStepAfterTheEnd : Prop :=
  (∀ (s : State) (e : FatalError), s.fault = some e → step s = .fault (.fatal e)) ∧
  ∀ s : State, s.fault = none → s.run = .stopped → step s = .fault .runStopped

/-- R244: nothing else raises an error: a step of a live machine always completes, and it ends in the fatal error only by fetching a byte
without an instruction. -/
def Obligations.EveryLiveStepCompletes : Prop :=
  ∀ s : State, s.live → ∃ t : State, step s = .next t ∧
    (t.fault ≠ none → s.fetching ∧ ∃ op, s.fetched = .unsupported op)

/-- R253, R261: the two steps that fetch nothing. Interrupt entry: the PC of the instruction not yet fetched is pushed, IE and `halted` and
the vector are cleared, the PC is 8 * v, nothing else changes but for the scheduler's part with the cycles of RST v (the model's reading,
log 10). A step while halted changes nothing and returns `HaltIdleCycles`. (The spec's decisions D8 and D9; log 2.) -/
def Obligations.InterruptEntryAndHaltedSteps : Prop :=
  (∀ (s : State) (v : BitVec 3), s.live → s.pending = some v →
    let saved := ((s.write8 (s.sp - 1) (hiByte s.pc)).write8 (s.sp - 2) (loByte s.pc))
    step s = .next (State.schedule { saved with
      sp := s.sp - 2, pc := BitVec.ofNat 16 (8 * v.toNat), ie := false, halted := false, pending := none }
        (cyclesOf s.config (octal 0b11 v 0b111) false))) ∧
  ∀ s : State, s.live → s.pending = none → s.halted = true → step s = .next (s.schedule s.config.haltIdleCycles)

/-- R252, R271 to R273: below the budget only the counters move; at it the phase flips, the half counter is cleared, the vector of the
event is latched if IE is 1 and lost if it is 0, and at the end of the frame the yield follows. (That the counter is cleared at both
events is the spec's decision D11.) -/
def Obligations.SchedulerEvents : Prop :=
  ∀ (s : State) (c : Nat), let u := { s with totalCycles := s.totalCycles + c, halfCycles := s.halfCycles + c }
    (s.halfCycles + c < s.config.halfBudget → s.schedule c = u) ∧
    (s.config.halfBudget ≤ s.halfCycles + c → s.phase = .first →
      s.schedule c = { u with halfCycles := 0, phase := .second,
                              pending := if s.ie then some s.config.midVector else s.pending }) ∧
    (s.config.halfBudget ≤ s.halfCycles + c → s.phase = .second →
      s.schedule c = { State.yield { u with pending := if s.ie then some s.config.endVector else s.pending } with
                              halfCycles := 0, phase := .first })

/-- R275, R276: a yield hands the sound events to the audio collaborator, in order, and empties the queue (R44, R290; the place they go to
is the model's, log 21), replaces the snapshot of every input port by the host's byte and no other, stops the run
exactly on an exit request, and changes nothing else (the host's queue and the count of yields are the model's, log 8). Over a whole
step no event is lost or replayed: what was handed over before stays as it was, what is handed over or queued is what was, followed by
the new events, which only an OUT gives; and an event is handed over only with a yield, which leaves none queued. -/
def Obligations.YieldMeetsHost : Prop :=
  (∀ s : State, s.yield.soundOutput = s.soundOutput ++ s.soundEvents ∧ s.yield.soundEvents = [] ∧
    (∀ p : Byte, s.yield.inputAt p = if p ∈ s.config.inputPorts then s.nextInput p else s.inputAt p) ∧
    s.yield.run = (if s.nextExit then .stopped else s.run) ∧
    { s.yield with soundOutput := s.soundOutput, soundEvents := s.soundEvents, input := s.input, run := s.run,
                   hostQueue := s.hostQueue, yields := s.yields } = s) ∧
  ∀ s t : State, step s = .next t → ∃ l : List SoundEvent,
    t.soundOutput ++ t.soundEvents = s.soundOutput ++ s.soundEvents ++ l ∧
    (l ≠ [] → s.fetching ∧ ∃ p, s.fetched = .outPort p) ∧
    (t.soundOutput = s.soundOutput ∨
      (t.soundOutput = s.soundOutput ++ s.soundEvents ++ l ∧ t.soundEvents = [] ∧ t.yields = s.yields + 1))

/-! ## Rules of the whole machine -/

/-- R254, R256: a pending vector is consumed by the very next step, which leaves IE clear, so none is pending after it. -/
def Obligations.PendingVectorIsConsumed : Prop :=
  ∀ s t : State, s.pending ≠ none → step s = .next t → t.pending = none ∧ t.ie = false ∧ t.halted = false

/-- R36, R38: IE is set only by EI and cleared only by DI or interrupt entry; `halted` is set only by HLT and cleared only by interrupt
entry. -/
def Obligations.WritersOfIeAndHalted : Prop :=
  ∀ s t : State, step s = .next t →
    (t.ie = true → s.ie = true ∨ (s.fetching ∧ s.fetched = .ei)) ∧
    (t.ie = false → s.ie = false ∨ s.pending ≠ none ∨ (s.fetching ∧ s.fetched = .di)) ∧
    (t.halted = true → s.halted = true ∨ (s.fetching ∧ s.fetched = .hlt)) ∧
    (t.halted = false → s.halted = false ∨ s.pending ≠ none)

/-- R37, R252: a step leaves a vector pending only if the event of this step raised it, with IE set. -/
def Obligations.PendingOnlyFromScheduler : Prop :=
  ∀ (s t : State) (v : BitVec 3), step s = .next t → t.pending = some v →
    t.ie = true ∧ t.halfCycles = 0 ∧
    ((s.phase = .first ∧ t.phase = .second ∧ v = s.config.midVector) ∨
     (s.phase = .second ∧ t.phase = .first ∧ v = s.config.endVector))

/-- R49, R71, R81: memory changes only where the step's instruction stores, or where interrupt entry pushes; the scheduler, the port model
and the yield change no byte. -/
def Obligations.WritersOfMemory : Prop :=
  ∀ (s t : State) (a : Word), step s = .next t → t.read8 a ≠ s.read8 a →
    (s.pending ≠ none ∧ a ∈ pushStore s) ∨
    (s.fetching ∧ a ∈ storedAddresses (s.advance s.fetched) s.fetched.form)

/-- R63 under `RomWritePolicy = ignore`: no step changes a byte of the program region, whatever it runs, and the policy itself stays. -/
def Obligations.ProgramRegionProtected : Prop :=
  ∀ s t : State, s.config.romWritePolicy = .ignore → step s = .next t →
    t.config = s.config ∧ ∀ a : Word, a.toNat < s.config.programRegionSize → t.read8 a = s.read8 a

/-- R232: with IE = 0 a halted core never leaves the halt: no number of steps changes a register, a flag, the PC, SP or memory. -/
def Obligations.HaltWithoutInterruptsIsPermanent : Prop :=
  ∀ (k : Nat) (s t : State), s.fault = none → s.halted = true → s.ie = false → s.pending = none →
    Host.Core.run Sys2Proof.core k s = .next t →
    t.halted = true ∧ t.ie = false ∧ t.pending = none ∧ t.fault = none ∧ t.regs = s.regs ∧ t.flags = s.flags ∧
    t.sp = s.sp ∧ t.pc = s.pc ∧ t.mem = s.mem

/-- U10 with R271: under parameters that meet the conditions, every step that does not end in the fatal error counts at least one cycle. -/
def Obligations.EveryStepCountsCycles : Prop :=
  ∀ s t : State, s.config.wf = true → step s = .next t → t.fault = none → s.totalCycles < t.totalCycles

/-! ## Reset and the invariant -/

/-- R50, R300, R301 (the spec's decision D13): the reset state for every choice of parameters, image and draws: the fixed values, the draws
where R50 says draw, and the image in the program region. -/
def Obligations.ResetValues : Prop :=
  ∀ (c : Config) (image : List Byte) (d : ResetDraw), let s := State.powerOn c image d
    s.pc = 0 ∧ s.ie = false ∧ s.pending = none ∧ s.halted = false ∧ s.fault = none ∧
    s.regs = d.regs ∧ s.sp = d.sp ∧ s.flags = d.flags ∧ s.shiftRegister = d.shiftRegister ∧
    s.shiftAmount = d.shiftAmount ∧ s.input = d.input ∧
    (∀ p : Byte, s.latchAt p = 0) ∧ s.soundEvents = [] ∧ s.soundOutput = [] ∧ s.totalCycles = 0 ∧ s.halfCycles = 0 ∧
    s.phase = .first ∧ s.run = .running ∧
    ∀ a : Word, s.read8 a =
      if a.toNat < c.programRegionSize ∧ a.toNat < image.length then image.getD a.toNat 0
      else Cells.get d.mem a.toNat

/-- The model's choice (log 3, log 4, log 5): `State.reset` is the reset state with the default parameters, no image and every draw zero. -/
def Obligations.ResetIsTheZeroDraw : Prop := State.reset = State.powerOn Config.platform [] ResetDraw.zero

/-- The invariant holds at reset, whose draws are the model's choice (log 3, log 4). -/
def Obligations.InvariantAtReset : Prop := Inv State.reset

/-- The invariant holds after every step from every state that meets it: canonical memory and port maps (R60, R61), latches within their
masks (R43), a pending vector only with IE set and a fresh half-frame (R252, R254), the half counter below its budget (R271), and a
fatal error only from a fetch (R241). -/
def Obligations.InvariantKeptByEveryStep : Prop :=
  ∀ s t : State, Inv s → step s = .next t → Inv t
end

