-- ==== Sys2Proof/Laws/Word.lean ====
section
/-! SUPPORT. Bytes and words: putting together and taking apart (00_scope.md R13). -/

namespace Sys2Proof

theorem word16_getLsbD (hi lo : Byte) (i : Nat) :
    (word16 hi lo).getLsbD i = if i < 8 then lo.getLsbD i else hi.getLsbD (i - 8) :=
  @BitVec.getLsbD_append 8 8 i hi lo

theorem hiByte_getLsbD (w : Word) (i : Nat) (h : i < 8) : (hiByte w).getLsbD i = w.getLsbD (8 + i) := by
  rw [hiByte, BitVec.getLsbD_extractLsb']; simp [h]

theorem loByte_getLsbD (w : Word) (i : Nat) (h : i < 8) : (loByte w).getLsbD i = w.getLsbD i := by
  rw [loByte, BitVec.getLsbD_extractLsb']; simp [h]

@[simp] theorem word16_hiByte_loByte (w : Word) : word16 (hiByte w) (loByte w) = w := by
  apply BitVec.eq_of_getLsbD_eq
  intro i hi
  rw [word16_getLsbD]
  split
  · exact loByte_getLsbD w i ‹_›
  · rw [hiByte_getLsbD w (i - 8) (by omega)]
    congr 1
    omega

@[simp] theorem hiByte_word16 (hi lo : Byte) : hiByte (word16 hi lo) = hi := by
  apply BitVec.eq_of_getLsbD_eq
  intro i h
  rw [hiByte_getLsbD _ i h, word16_getLsbD, if_neg (by omega)]
  congr 1
  omega

@[simp] theorem loByte_word16 (hi lo : Byte) : loByte (word16 hi lo) = lo := by
  apply BitVec.eq_of_getLsbD_eq
  intro i h
  rw [loByte_getLsbD _ i h, word16_getLsbD, if_pos h]

/-- `{hi, lo}` is `hi * 256 + lo` (R13). -/
theorem word16_toNat (hi lo : Byte) : (word16 hi lo).toNat = hi.toNat * 256 + lo.toNat := by
  have h : (word16 hi lo).toNat = hi.toNat <<< 8 ||| lo.toNat := BitVec.toNat_append hi lo
  rw [h, ← Nat.shiftLeft_add_eq_or_of_lt lo.isLt, Nat.shiftLeft_eq]

end Sys2Proof
end

