-- ==== Sys2Proof/Laws/Decode.lean ====
section
/-! SUPPORT. What decoding a list of bytes does, by the length of the encoding. -/

namespace Sys2Proof

theorem decode_one (op : Byte) (rest : List Byte) (h : encodedLength op = 1) :
    decode (op :: rest) = .ok (decodeBytes op (rest.getD 0 0) (rest.getD 1 0), rest) := by
  simp [decode, h]

theorem decode_two (op b2 : Byte) (rest : List Byte) (h : encodedLength op = 2) :
    decode (op :: b2 :: rest) = .ok (decodeBytes op b2 (rest.getD 0 0), rest) := by
  simp [decode, h]

theorem decode_three (op b2 b3 : Byte) (rest : List Byte) (h : encodedLength op = 3) :
    decode (op :: b2 :: b3 :: rest) = .ok (decodeBytes op b2 b3, rest) := by
  simp [decode, h]

/-- The encoding of an instruction is its opcode byte and its operand bytes. -/
theorem encode_eq (i : Instr) : encode i = i.form.opcode :: i.form.operandBytes := rfl

/-- Outside the list a byte decodes by the map alone (R103). -/
theorem decodeModeled_enabled {dis : List Byte} {op : Byte} (h : dis.contains op = false) (b2 b3 : Byte) :
    decodeModeled dis op b2 b3 = decodeBytes op b2 b3 := by
  simp only [decodeModeled, h, Bool.false_eq_true, if_false]

/-- A byte outside `ModeledOpcodes` is unsupported (R103). -/
theorem decodeModeled_disabled {dis : List Byte} {op : Byte} (h : dis.contains op = true) (b2 b3 : Byte) :
    decodeModeled dis op b2 b3 = .unsupported op := by
  simp only [decodeModeled, h, if_true]

end Sys2Proof
end

