-- ==== Sys2Proof/Laws/State.lean ====
section
/-! SUPPORT. One lemma for each field of State and each field update: the field written, and every other field as it was. -/

namespace Sys2Proof.Machine

variable (s : State)

/-! ### setReg -/

@[simp] theorem setReg_regs (r : Reg) (v : Byte) : (s.setReg r v).regs = s.regs.set r v := rfl
@[simp] theorem setReg_flags (r : Reg) (v : Byte) : (s.setReg r v).flags = s.flags := rfl
@[simp] theorem setReg_sp (r : Reg) (v : Byte) : (s.setReg r v).sp = s.sp := rfl
@[simp] theorem setReg_pc (r : Reg) (v : Byte) : (s.setReg r v).pc = s.pc := rfl
@[simp] theorem setReg_ie (r : Reg) (v : Byte) : (s.setReg r v).ie = s.ie := rfl
@[simp] theorem setReg_pending (r : Reg) (v : Byte) : (s.setReg r v).pending = s.pending := rfl
@[simp] theorem setReg_halted (r : Reg) (v : Byte) : (s.setReg r v).halted = s.halted := rfl
@[simp] theorem setReg_fault (r : Reg) (v : Byte) : (s.setReg r v).fault = s.fault := rfl
@[simp] theorem setReg_shiftRegister (r : Reg) (v : Byte) : (s.setReg r v).shiftRegister = s.shiftRegister := rfl
@[simp] theorem setReg_shiftAmount (r : Reg) (v : Byte) : (s.setReg r v).shiftAmount = s.shiftAmount := rfl
@[simp] theorem setReg_input (r : Reg) (v : Byte) : (s.setReg r v).input = s.input := rfl
@[simp] theorem setReg_soundLatch (r : Reg) (v : Byte) : (s.setReg r v).soundLatch = s.soundLatch := rfl
@[simp] theorem setReg_soundEvents (r : Reg) (v : Byte) : (s.setReg r v).soundEvents = s.soundEvents := rfl
@[simp] theorem setReg_soundOutput (r : Reg) (v : Byte) : (s.setReg r v).soundOutput = s.soundOutput := rfl
@[simp] theorem setReg_totalCycles (r : Reg) (v : Byte) : (s.setReg r v).totalCycles = s.totalCycles := rfl
@[simp] theorem setReg_halfCycles (r : Reg) (v : Byte) : (s.setReg r v).halfCycles = s.halfCycles := rfl
@[simp] theorem setReg_phase (r : Reg) (v : Byte) : (s.setReg r v).phase = s.phase := rfl
@[simp] theorem setReg_run (r : Reg) (v : Byte) : (s.setReg r v).run = s.run := rfl
@[simp] theorem setReg_mem (r : Reg) (v : Byte) : (s.setReg r v).mem = s.mem := rfl
@[simp] theorem setReg_config (r : Reg) (v : Byte) : (s.setReg r v).config = s.config := rfl
@[simp] theorem setReg_hostQueue (r : Reg) (v : Byte) : (s.setReg r v).hostQueue = s.hostQueue := rfl
@[simp] theorem setReg_yields (r : Reg) (v : Byte) : (s.setReg r v).yields = s.yields := rfl

/-! ### setFlags -/

@[simp] theorem setFlags_regs (f : Flags) : (s.setFlags f).regs = s.regs := rfl
@[simp] theorem setFlags_flags (f : Flags) : (s.setFlags f).flags = f := rfl
@[simp] theorem setFlags_sp (f : Flags) : (s.setFlags f).sp = s.sp := rfl
@[simp] theorem setFlags_pc (f : Flags) : (s.setFlags f).pc = s.pc := rfl
@[simp] theorem setFlags_ie (f : Flags) : (s.setFlags f).ie = s.ie := rfl
@[simp] theorem setFlags_pending (f : Flags) : (s.setFlags f).pending = s.pending := rfl
@[simp] theorem setFlags_halted (f : Flags) : (s.setFlags f).halted = s.halted := rfl
@[simp] theorem setFlags_fault (f : Flags) : (s.setFlags f).fault = s.fault := rfl
@[simp] theorem setFlags_shiftRegister (f : Flags) : (s.setFlags f).shiftRegister = s.shiftRegister := rfl
@[simp] theorem setFlags_shiftAmount (f : Flags) : (s.setFlags f).shiftAmount = s.shiftAmount := rfl
@[simp] theorem setFlags_input (f : Flags) : (s.setFlags f).input = s.input := rfl
@[simp] theorem setFlags_soundLatch (f : Flags) : (s.setFlags f).soundLatch = s.soundLatch := rfl
@[simp] theorem setFlags_soundEvents (f : Flags) : (s.setFlags f).soundEvents = s.soundEvents := rfl
@[simp] theorem setFlags_soundOutput (f : Flags) : (s.setFlags f).soundOutput = s.soundOutput := rfl
@[simp] theorem setFlags_totalCycles (f : Flags) : (s.setFlags f).totalCycles = s.totalCycles := rfl
@[simp] theorem setFlags_halfCycles (f : Flags) : (s.setFlags f).halfCycles = s.halfCycles := rfl
@[simp] theorem setFlags_phase (f : Flags) : (s.setFlags f).phase = s.phase := rfl
@[simp] theorem setFlags_run (f : Flags) : (s.setFlags f).run = s.run := rfl
@[simp] theorem setFlags_mem (f : Flags) : (s.setFlags f).mem = s.mem := rfl
@[simp] theorem setFlags_config (f : Flags) : (s.setFlags f).config = s.config := rfl
@[simp] theorem setFlags_hostQueue (f : Flags) : (s.setFlags f).hostQueue = s.hostQueue := rfl
@[simp] theorem setFlags_yields (f : Flags) : (s.setFlags f).yields = s.yields := rfl

/-! ### setSp -/

@[simp] theorem setSp_regs (v : Word) : (s.setSp v).regs = s.regs := rfl
@[simp] theorem setSp_flags (v : Word) : (s.setSp v).flags = s.flags := rfl
@[simp] theorem setSp_sp (v : Word) : (s.setSp v).sp = v := rfl
@[simp] theorem setSp_pc (v : Word) : (s.setSp v).pc = s.pc := rfl
@[simp] theorem setSp_ie (v : Word) : (s.setSp v).ie = s.ie := rfl
@[simp] theorem setSp_pending (v : Word) : (s.setSp v).pending = s.pending := rfl
@[simp] theorem setSp_halted (v : Word) : (s.setSp v).halted = s.halted := rfl
@[simp] theorem setSp_fault (v : Word) : (s.setSp v).fault = s.fault := rfl
@[simp] theorem setSp_shiftRegister (v : Word) : (s.setSp v).shiftRegister = s.shiftRegister := rfl
@[simp] theorem setSp_shiftAmount (v : Word) : (s.setSp v).shiftAmount = s.shiftAmount := rfl
@[simp] theorem setSp_input (v : Word) : (s.setSp v).input = s.input := rfl
@[simp] theorem setSp_soundLatch (v : Word) : (s.setSp v).soundLatch = s.soundLatch := rfl
@[simp] theorem setSp_soundEvents (v : Word) : (s.setSp v).soundEvents = s.soundEvents := rfl
@[simp] theorem setSp_soundOutput (v : Word) : (s.setSp v).soundOutput = s.soundOutput := rfl
@[simp] theorem setSp_totalCycles (v : Word) : (s.setSp v).totalCycles = s.totalCycles := rfl
@[simp] theorem setSp_halfCycles (v : Word) : (s.setSp v).halfCycles = s.halfCycles := rfl
@[simp] theorem setSp_phase (v : Word) : (s.setSp v).phase = s.phase := rfl
@[simp] theorem setSp_run (v : Word) : (s.setSp v).run = s.run := rfl
@[simp] theorem setSp_mem (v : Word) : (s.setSp v).mem = s.mem := rfl
@[simp] theorem setSp_config (v : Word) : (s.setSp v).config = s.config := rfl
@[simp] theorem setSp_hostQueue (v : Word) : (s.setSp v).hostQueue = s.hostQueue := rfl
@[simp] theorem setSp_yields (v : Word) : (s.setSp v).yields = s.yields := rfl

/-! ### setPc -/

@[simp] theorem setPc_regs (v : Word) : (s.setPc v).regs = s.regs := rfl
@[simp] theorem setPc_flags (v : Word) : (s.setPc v).flags = s.flags := rfl
@[simp] theorem setPc_sp (v : Word) : (s.setPc v).sp = s.sp := rfl
@[simp] theorem setPc_pc (v : Word) : (s.setPc v).pc = v := rfl
@[simp] theorem setPc_ie (v : Word) : (s.setPc v).ie = s.ie := rfl
@[simp] theorem setPc_pending (v : Word) : (s.setPc v).pending = s.pending := rfl
@[simp] theorem setPc_halted (v : Word) : (s.setPc v).halted = s.halted := rfl
@[simp] theorem setPc_fault (v : Word) : (s.setPc v).fault = s.fault := rfl
@[simp] theorem setPc_shiftRegister (v : Word) : (s.setPc v).shiftRegister = s.shiftRegister := rfl
@[simp] theorem setPc_shiftAmount (v : Word) : (s.setPc v).shiftAmount = s.shiftAmount := rfl
@[simp] theorem setPc_input (v : Word) : (s.setPc v).input = s.input := rfl
@[simp] theorem setPc_soundLatch (v : Word) : (s.setPc v).soundLatch = s.soundLatch := rfl
@[simp] theorem setPc_soundEvents (v : Word) : (s.setPc v).soundEvents = s.soundEvents := rfl
@[simp] theorem setPc_soundOutput (v : Word) : (s.setPc v).soundOutput = s.soundOutput := rfl
@[simp] theorem setPc_totalCycles (v : Word) : (s.setPc v).totalCycles = s.totalCycles := rfl
@[simp] theorem setPc_halfCycles (v : Word) : (s.setPc v).halfCycles = s.halfCycles := rfl
@[simp] theorem setPc_phase (v : Word) : (s.setPc v).phase = s.phase := rfl
@[simp] theorem setPc_run (v : Word) : (s.setPc v).run = s.run := rfl
@[simp] theorem setPc_mem (v : Word) : (s.setPc v).mem = s.mem := rfl
@[simp] theorem setPc_config (v : Word) : (s.setPc v).config = s.config := rfl
@[simp] theorem setPc_hostQueue (v : Word) : (s.setPc v).hostQueue = s.hostQueue := rfl
@[simp] theorem setPc_yields (v : Word) : (s.setPc v).yields = s.yields := rfl

/-! ### setIe -/

@[simp] theorem setIe_regs (b : Bool) : (s.setIe b).regs = s.regs := rfl
@[simp] theorem setIe_flags (b : Bool) : (s.setIe b).flags = s.flags := rfl
@[simp] theorem setIe_sp (b : Bool) : (s.setIe b).sp = s.sp := rfl
@[simp] theorem setIe_pc (b : Bool) : (s.setIe b).pc = s.pc := rfl
@[simp] theorem setIe_ie (b : Bool) : (s.setIe b).ie = b := rfl
@[simp] theorem setIe_pending (b : Bool) : (s.setIe b).pending = s.pending := rfl
@[simp] theorem setIe_halted (b : Bool) : (s.setIe b).halted = s.halted := rfl
@[simp] theorem setIe_fault (b : Bool) : (s.setIe b).fault = s.fault := rfl
@[simp] theorem setIe_shiftRegister (b : Bool) : (s.setIe b).shiftRegister = s.shiftRegister := rfl
@[simp] theorem setIe_shiftAmount (b : Bool) : (s.setIe b).shiftAmount = s.shiftAmount := rfl
@[simp] theorem setIe_input (b : Bool) : (s.setIe b).input = s.input := rfl
@[simp] theorem setIe_soundLatch (b : Bool) : (s.setIe b).soundLatch = s.soundLatch := rfl
@[simp] theorem setIe_soundEvents (b : Bool) : (s.setIe b).soundEvents = s.soundEvents := rfl
@[simp] theorem setIe_soundOutput (b : Bool) : (s.setIe b).soundOutput = s.soundOutput := rfl
@[simp] theorem setIe_totalCycles (b : Bool) : (s.setIe b).totalCycles = s.totalCycles := rfl
@[simp] theorem setIe_halfCycles (b : Bool) : (s.setIe b).halfCycles = s.halfCycles := rfl
@[simp] theorem setIe_phase (b : Bool) : (s.setIe b).phase = s.phase := rfl
@[simp] theorem setIe_run (b : Bool) : (s.setIe b).run = s.run := rfl
@[simp] theorem setIe_mem (b : Bool) : (s.setIe b).mem = s.mem := rfl
@[simp] theorem setIe_config (b : Bool) : (s.setIe b).config = s.config := rfl
@[simp] theorem setIe_hostQueue (b : Bool) : (s.setIe b).hostQueue = s.hostQueue := rfl
@[simp] theorem setIe_yields (b : Bool) : (s.setIe b).yields = s.yields := rfl

/-! ### setPending -/

@[simp] theorem setPending_regs (v : Option (BitVec 3)) : (s.setPending v).regs = s.regs := rfl
@[simp] theorem setPending_flags (v : Option (BitVec 3)) : (s.setPending v).flags = s.flags := rfl
@[simp] theorem setPending_sp (v : Option (BitVec 3)) : (s.setPending v).sp = s.sp := rfl
@[simp] theorem setPending_pc (v : Option (BitVec 3)) : (s.setPending v).pc = s.pc := rfl
@[simp] theorem setPending_ie (v : Option (BitVec 3)) : (s.setPending v).ie = s.ie := rfl
@[simp] theorem setPending_pending (v : Option (BitVec 3)) : (s.setPending v).pending = v := rfl
@[simp] theorem setPending_halted (v : Option (BitVec 3)) : (s.setPending v).halted = s.halted := rfl
@[simp] theorem setPending_fault (v : Option (BitVec 3)) : (s.setPending v).fault = s.fault := rfl
@[simp] theorem setPending_shiftRegister (v : Option (BitVec 3)) : (s.setPending v).shiftRegister = s.shiftRegister := rfl
@[simp] theorem setPending_shiftAmount (v : Option (BitVec 3)) : (s.setPending v).shiftAmount = s.shiftAmount := rfl
@[simp] theorem setPending_input (v : Option (BitVec 3)) : (s.setPending v).input = s.input := rfl
@[simp] theorem setPending_soundLatch (v : Option (BitVec 3)) : (s.setPending v).soundLatch = s.soundLatch := rfl
@[simp] theorem setPending_soundEvents (v : Option (BitVec 3)) : (s.setPending v).soundEvents = s.soundEvents := rfl
@[simp] theorem setPending_soundOutput (v : Option (BitVec 3)) : (s.setPending v).soundOutput = s.soundOutput := rfl
@[simp] theorem setPending_totalCycles (v : Option (BitVec 3)) : (s.setPending v).totalCycles = s.totalCycles := rfl
@[simp] theorem setPending_halfCycles (v : Option (BitVec 3)) : (s.setPending v).halfCycles = s.halfCycles := rfl
@[simp] theorem setPending_phase (v : Option (BitVec 3)) : (s.setPending v).phase = s.phase := rfl
@[simp] theorem setPending_run (v : Option (BitVec 3)) : (s.setPending v).run = s.run := rfl
@[simp] theorem setPending_mem (v : Option (BitVec 3)) : (s.setPending v).mem = s.mem := rfl
@[simp] theorem setPending_config (v : Option (BitVec 3)) : (s.setPending v).config = s.config := rfl
@[simp] theorem setPending_hostQueue (v : Option (BitVec 3)) : (s.setPending v).hostQueue = s.hostQueue := rfl
@[simp] theorem setPending_yields (v : Option (BitVec 3)) : (s.setPending v).yields = s.yields := rfl

/-! ### setHalted -/

@[simp] theorem setHalted_regs (b : Bool) : (s.setHalted b).regs = s.regs := rfl
@[simp] theorem setHalted_flags (b : Bool) : (s.setHalted b).flags = s.flags := rfl
@[simp] theorem setHalted_sp (b : Bool) : (s.setHalted b).sp = s.sp := rfl
@[simp] theorem setHalted_pc (b : Bool) : (s.setHalted b).pc = s.pc := rfl
@[simp] theorem setHalted_ie (b : Bool) : (s.setHalted b).ie = s.ie := rfl
@[simp] theorem setHalted_pending (b : Bool) : (s.setHalted b).pending = s.pending := rfl
@[simp] theorem setHalted_halted (b : Bool) : (s.setHalted b).halted = b := rfl
@[simp] theorem setHalted_fault (b : Bool) : (s.setHalted b).fault = s.fault := rfl
@[simp] theorem setHalted_shiftRegister (b : Bool) : (s.setHalted b).shiftRegister = s.shiftRegister := rfl
@[simp] theorem setHalted_shiftAmount (b : Bool) : (s.setHalted b).shiftAmount = s.shiftAmount := rfl
@[simp] theorem setHalted_input (b : Bool) : (s.setHalted b).input = s.input := rfl
@[simp] theorem setHalted_soundLatch (b : Bool) : (s.setHalted b).soundLatch = s.soundLatch := rfl
@[simp] theorem setHalted_soundEvents (b : Bool) : (s.setHalted b).soundEvents = s.soundEvents := rfl
@[simp] theorem setHalted_soundOutput (b : Bool) : (s.setHalted b).soundOutput = s.soundOutput := rfl
@[simp] theorem setHalted_totalCycles (b : Bool) : (s.setHalted b).totalCycles = s.totalCycles := rfl
@[simp] theorem setHalted_halfCycles (b : Bool) : (s.setHalted b).halfCycles = s.halfCycles := rfl
@[simp] theorem setHalted_phase (b : Bool) : (s.setHalted b).phase = s.phase := rfl
@[simp] theorem setHalted_run (b : Bool) : (s.setHalted b).run = s.run := rfl
@[simp] theorem setHalted_mem (b : Bool) : (s.setHalted b).mem = s.mem := rfl
@[simp] theorem setHalted_config (b : Bool) : (s.setHalted b).config = s.config := rfl
@[simp] theorem setHalted_hostQueue (b : Bool) : (s.setHalted b).hostQueue = s.hostQueue := rfl
@[simp] theorem setHalted_yields (b : Bool) : (s.setHalted b).yields = s.yields := rfl

/-! ### setFault -/

@[simp] theorem setFault_regs (e : Option FatalError) : (s.setFault e).regs = s.regs := rfl
@[simp] theorem setFault_flags (e : Option FatalError) : (s.setFault e).flags = s.flags := rfl
@[simp] theorem setFault_sp (e : Option FatalError) : (s.setFault e).sp = s.sp := rfl
@[simp] theorem setFault_pc (e : Option FatalError) : (s.setFault e).pc = s.pc := rfl
@[simp] theorem setFault_ie (e : Option FatalError) : (s.setFault e).ie = s.ie := rfl
@[simp] theorem setFault_pending (e : Option FatalError) : (s.setFault e).pending = s.pending := rfl
@[simp] theorem setFault_halted (e : Option FatalError) : (s.setFault e).halted = s.halted := rfl
@[simp] theorem setFault_fault (e : Option FatalError) : (s.setFault e).fault = e := rfl
@[simp] theorem setFault_shiftRegister (e : Option FatalError) : (s.setFault e).shiftRegister = s.shiftRegister := rfl
@[simp] theorem setFault_shiftAmount (e : Option FatalError) : (s.setFault e).shiftAmount = s.shiftAmount := rfl
@[simp] theorem setFault_input (e : Option FatalError) : (s.setFault e).input = s.input := rfl
@[simp] theorem setFault_soundLatch (e : Option FatalError) : (s.setFault e).soundLatch = s.soundLatch := rfl
@[simp] theorem setFault_soundEvents (e : Option FatalError) : (s.setFault e).soundEvents = s.soundEvents := rfl
@[simp] theorem setFault_soundOutput (e : Option FatalError) : (s.setFault e).soundOutput = s.soundOutput := rfl
@[simp] theorem setFault_totalCycles (e : Option FatalError) : (s.setFault e).totalCycles = s.totalCycles := rfl
@[simp] theorem setFault_halfCycles (e : Option FatalError) : (s.setFault e).halfCycles = s.halfCycles := rfl
@[simp] theorem setFault_phase (e : Option FatalError) : (s.setFault e).phase = s.phase := rfl
@[simp] theorem setFault_run (e : Option FatalError) : (s.setFault e).run = s.run := rfl
@[simp] theorem setFault_mem (e : Option FatalError) : (s.setFault e).mem = s.mem := rfl
@[simp] theorem setFault_config (e : Option FatalError) : (s.setFault e).config = s.config := rfl
@[simp] theorem setFault_hostQueue (e : Option FatalError) : (s.setFault e).hostQueue = s.hostQueue := rfl
@[simp] theorem setFault_yields (e : Option FatalError) : (s.setFault e).yields = s.yields := rfl

/-! ### setMem -/

@[simp] theorem setMem_regs (m : Memory) : (s.setMem m).regs = s.regs := rfl
@[simp] theorem setMem_flags (m : Memory) : (s.setMem m).flags = s.flags := rfl
@[simp] theorem setMem_sp (m : Memory) : (s.setMem m).sp = s.sp := rfl
@[simp] theorem setMem_pc (m : Memory) : (s.setMem m).pc = s.pc := rfl
@[simp] theorem setMem_ie (m : Memory) : (s.setMem m).ie = s.ie := rfl
@[simp] theorem setMem_pending (m : Memory) : (s.setMem m).pending = s.pending := rfl
@[simp] theorem setMem_halted (m : Memory) : (s.setMem m).halted = s.halted := rfl
@[simp] theorem setMem_fault (m : Memory) : (s.setMem m).fault = s.fault := rfl
@[simp] theorem setMem_shiftRegister (m : Memory) : (s.setMem m).shiftRegister = s.shiftRegister := rfl
@[simp] theorem setMem_shiftAmount (m : Memory) : (s.setMem m).shiftAmount = s.shiftAmount := rfl
@[simp] theorem setMem_input (m : Memory) : (s.setMem m).input = s.input := rfl
@[simp] theorem setMem_soundLatch (m : Memory) : (s.setMem m).soundLatch = s.soundLatch := rfl
@[simp] theorem setMem_soundEvents (m : Memory) : (s.setMem m).soundEvents = s.soundEvents := rfl
@[simp] theorem setMem_soundOutput (m : Memory) : (s.setMem m).soundOutput = s.soundOutput := rfl
@[simp] theorem setMem_totalCycles (m : Memory) : (s.setMem m).totalCycles = s.totalCycles := rfl
@[simp] theorem setMem_halfCycles (m : Memory) : (s.setMem m).halfCycles = s.halfCycles := rfl
@[simp] theorem setMem_phase (m : Memory) : (s.setMem m).phase = s.phase := rfl
@[simp] theorem setMem_run (m : Memory) : (s.setMem m).run = s.run := rfl
@[simp] theorem setMem_mem (m : Memory) : (s.setMem m).mem = m := rfl
@[simp] theorem setMem_config (m : Memory) : (s.setMem m).config = s.config := rfl
@[simp] theorem setMem_hostQueue (m : Memory) : (s.setMem m).hostQueue = s.hostQueue := rfl
@[simp] theorem setMem_yields (m : Memory) : (s.setMem m).yields = s.yields := rfl

/-! ### setShiftRegister -/

@[simp] theorem setShiftRegister_regs (v : Word) : (s.setShiftRegister v).regs = s.regs := rfl
@[simp] theorem setShiftRegister_flags (v : Word) : (s.setShiftRegister v).flags = s.flags := rfl
@[simp] theorem setShiftRegister_sp (v : Word) : (s.setShiftRegister v).sp = s.sp := rfl
@[simp] theorem setShiftRegister_pc (v : Word) : (s.setShiftRegister v).pc = s.pc := rfl
@[simp] theorem setShiftRegister_ie (v : Word) : (s.setShiftRegister v).ie = s.ie := rfl
@[simp] theorem setShiftRegister_pending (v : Word) : (s.setShiftRegister v).pending = s.pending := rfl
@[simp] theorem setShiftRegister_halted (v : Word) : (s.setShiftRegister v).halted = s.halted := rfl
@[simp] theorem setShiftRegister_fault (v : Word) : (s.setShiftRegister v).fault = s.fault := rfl
@[simp] theorem setShiftRegister_shiftRegister (v : Word) : (s.setShiftRegister v).shiftRegister = v := rfl
@[simp] theorem setShiftRegister_shiftAmount (v : Word) : (s.setShiftRegister v).shiftAmount = s.shiftAmount := rfl
@[simp] theorem setShiftRegister_input (v : Word) : (s.setShiftRegister v).input = s.input := rfl
@[simp] theorem setShiftRegister_soundLatch (v : Word) : (s.setShiftRegister v).soundLatch = s.soundLatch := rfl
@[simp] theorem setShiftRegister_soundEvents (v : Word) : (s.setShiftRegister v).soundEvents = s.soundEvents := rfl
@[simp] theorem setShiftRegister_soundOutput (v : Word) : (s.setShiftRegister v).soundOutput = s.soundOutput := rfl
@[simp] theorem setShiftRegister_totalCycles (v : Word) : (s.setShiftRegister v).totalCycles = s.totalCycles := rfl
@[simp] theorem setShiftRegister_halfCycles (v : Word) : (s.setShiftRegister v).halfCycles = s.halfCycles := rfl
@[simp] theorem setShiftRegister_phase (v : Word) : (s.setShiftRegister v).phase = s.phase := rfl
@[simp] theorem setShiftRegister_run (v : Word) : (s.setShiftRegister v).run = s.run := rfl
@[simp] theorem setShiftRegister_mem (v : Word) : (s.setShiftRegister v).mem = s.mem := rfl
@[simp] theorem setShiftRegister_config (v : Word) : (s.setShiftRegister v).config = s.config := rfl
@[simp] theorem setShiftRegister_hostQueue (v : Word) : (s.setShiftRegister v).hostQueue = s.hostQueue := rfl
@[simp] theorem setShiftRegister_yields (v : Word) : (s.setShiftRegister v).yields = s.yields := rfl

/-! ### setShiftAmount -/

@[simp] theorem setShiftAmount_regs (v : BitVec 3) : (s.setShiftAmount v).regs = s.regs := rfl
@[simp] theorem setShiftAmount_flags (v : BitVec 3) : (s.setShiftAmount v).flags = s.flags := rfl
@[simp] theorem setShiftAmount_sp (v : BitVec 3) : (s.setShiftAmount v).sp = s.sp := rfl
@[simp] theorem setShiftAmount_pc (v : BitVec 3) : (s.setShiftAmount v).pc = s.pc := rfl
@[simp] theorem setShiftAmount_ie (v : BitVec 3) : (s.setShiftAmount v).ie = s.ie := rfl
@[simp] theorem setShiftAmount_pending (v : BitVec 3) : (s.setShiftAmount v).pending = s.pending := rfl
@[simp] theorem setShiftAmount_halted (v : BitVec 3) : (s.setShiftAmount v).halted = s.halted := rfl
@[simp] theorem setShiftAmount_fault (v : BitVec 3) : (s.setShiftAmount v).fault = s.fault := rfl
@[simp] theorem setShiftAmount_shiftRegister (v : BitVec 3) : (s.setShiftAmount v).shiftRegister = s.shiftRegister := rfl
@[simp] theorem setShiftAmount_shiftAmount (v : BitVec 3) : (s.setShiftAmount v).shiftAmount = v := rfl
@[simp] theorem setShiftAmount_input (v : BitVec 3) : (s.setShiftAmount v).input = s.input := rfl
@[simp] theorem setShiftAmount_soundLatch (v : BitVec 3) : (s.setShiftAmount v).soundLatch = s.soundLatch := rfl
@[simp] theorem setShiftAmount_soundEvents (v : BitVec 3) : (s.setShiftAmount v).soundEvents = s.soundEvents := rfl
@[simp] theorem setShiftAmount_soundOutput (v : BitVec 3) : (s.setShiftAmount v).soundOutput = s.soundOutput := rfl
@[simp] theorem setShiftAmount_totalCycles (v : BitVec 3) : (s.setShiftAmount v).totalCycles = s.totalCycles := rfl
@[simp] theorem setShiftAmount_halfCycles (v : BitVec 3) : (s.setShiftAmount v).halfCycles = s.halfCycles := rfl
@[simp] theorem setShiftAmount_phase (v : BitVec 3) : (s.setShiftAmount v).phase = s.phase := rfl
@[simp] theorem setShiftAmount_run (v : BitVec 3) : (s.setShiftAmount v).run = s.run := rfl
@[simp] theorem setShiftAmount_mem (v : BitVec 3) : (s.setShiftAmount v).mem = s.mem := rfl
@[simp] theorem setShiftAmount_config (v : BitVec 3) : (s.setShiftAmount v).config = s.config := rfl
@[simp] theorem setShiftAmount_hostQueue (v : BitVec 3) : (s.setShiftAmount v).hostQueue = s.hostQueue := rfl
@[simp] theorem setShiftAmount_yields (v : BitVec 3) : (s.setShiftAmount v).yields = s.yields := rfl

/-! ### setSoundLatch -/

@[simp] theorem setSoundLatch_regs (m : Cells) : (s.setSoundLatch m).regs = s.regs := rfl
@[simp] theorem setSoundLatch_flags (m : Cells) : (s.setSoundLatch m).flags = s.flags := rfl
@[simp] theorem setSoundLatch_sp (m : Cells) : (s.setSoundLatch m).sp = s.sp := rfl
@[simp] theorem setSoundLatch_pc (m : Cells) : (s.setSoundLatch m).pc = s.pc := rfl
@[simp] theorem setSoundLatch_ie (m : Cells) : (s.setSoundLatch m).ie = s.ie := rfl
@[simp] theorem setSoundLatch_pending (m : Cells) : (s.setSoundLatch m).pending = s.pending := rfl
@[simp] theorem setSoundLatch_halted (m : Cells) : (s.setSoundLatch m).halted = s.halted := rfl
@[simp] theorem setSoundLatch_fault (m : Cells) : (s.setSoundLatch m).fault = s.fault := rfl
@[simp] theorem setSoundLatch_shiftRegister (m : Cells) : (s.setSoundLatch m).shiftRegister = s.shiftRegister := rfl
@[simp] theorem setSoundLatch_shiftAmount (m : Cells) : (s.setSoundLatch m).shiftAmount = s.shiftAmount := rfl
@[simp] theorem setSoundLatch_input (m : Cells) : (s.setSoundLatch m).input = s.input := rfl
@[simp] theorem setSoundLatch_soundLatch (m : Cells) : (s.setSoundLatch m).soundLatch = m := rfl
@[simp] theorem setSoundLatch_soundEvents (m : Cells) : (s.setSoundLatch m).soundEvents = s.soundEvents := rfl
@[simp] theorem setSoundLatch_soundOutput (m : Cells) : (s.setSoundLatch m).soundOutput = s.soundOutput := rfl
@[simp] theorem setSoundLatch_totalCycles (m : Cells) : (s.setSoundLatch m).totalCycles = s.totalCycles := rfl
@[simp] theorem setSoundLatch_halfCycles (m : Cells) : (s.setSoundLatch m).halfCycles = s.halfCycles := rfl
@[simp] theorem setSoundLatch_phase (m : Cells) : (s.setSoundLatch m).phase = s.phase := rfl
@[simp] theorem setSoundLatch_run (m : Cells) : (s.setSoundLatch m).run = s.run := rfl
@[simp] theorem setSoundLatch_mem (m : Cells) : (s.setSoundLatch m).mem = s.mem := rfl
@[simp] theorem setSoundLatch_config (m : Cells) : (s.setSoundLatch m).config = s.config := rfl
@[simp] theorem setSoundLatch_hostQueue (m : Cells) : (s.setSoundLatch m).hostQueue = s.hostQueue := rfl
@[simp] theorem setSoundLatch_yields (m : Cells) : (s.setSoundLatch m).yields = s.yields := rfl

/-! ### setSoundEvents -/

@[simp] theorem setSoundEvents_regs (q : List SoundEvent) : (s.setSoundEvents q).regs = s.regs := rfl
@[simp] theorem setSoundEvents_flags (q : List SoundEvent) : (s.setSoundEvents q).flags = s.flags := rfl
@[simp] theorem setSoundEvents_sp (q : List SoundEvent) : (s.setSoundEvents q).sp = s.sp := rfl
@[simp] theorem setSoundEvents_pc (q : List SoundEvent) : (s.setSoundEvents q).pc = s.pc := rfl
@[simp] theorem setSoundEvents_ie (q : List SoundEvent) : (s.setSoundEvents q).ie = s.ie := rfl
@[simp] theorem setSoundEvents_pending (q : List SoundEvent) : (s.setSoundEvents q).pending = s.pending := rfl
@[simp] theorem setSoundEvents_halted (q : List SoundEvent) : (s.setSoundEvents q).halted = s.halted := rfl
@[simp] theorem setSoundEvents_fault (q : List SoundEvent) : (s.setSoundEvents q).fault = s.fault := rfl
@[simp] theorem setSoundEvents_shiftRegister (q : List SoundEvent) : (s.setSoundEvents q).shiftRegister = s.shiftRegister := rfl
@[simp] theorem setSoundEvents_shiftAmount (q : List SoundEvent) : (s.setSoundEvents q).shiftAmount = s.shiftAmount := rfl
@[simp] theorem setSoundEvents_input (q : List SoundEvent) : (s.setSoundEvents q).input = s.input := rfl
@[simp] theorem setSoundEvents_soundLatch (q : List SoundEvent) : (s.setSoundEvents q).soundLatch = s.soundLatch := rfl
@[simp] theorem setSoundEvents_soundEvents (q : List SoundEvent) : (s.setSoundEvents q).soundEvents = q := rfl
@[simp] theorem setSoundEvents_soundOutput (q : List SoundEvent) : (s.setSoundEvents q).soundOutput = s.soundOutput := rfl
@[simp] theorem setSoundEvents_totalCycles (q : List SoundEvent) : (s.setSoundEvents q).totalCycles = s.totalCycles := rfl
@[simp] theorem setSoundEvents_halfCycles (q : List SoundEvent) : (s.setSoundEvents q).halfCycles = s.halfCycles := rfl
@[simp] theorem setSoundEvents_phase (q : List SoundEvent) : (s.setSoundEvents q).phase = s.phase := rfl
@[simp] theorem setSoundEvents_run (q : List SoundEvent) : (s.setSoundEvents q).run = s.run := rfl
@[simp] theorem setSoundEvents_mem (q : List SoundEvent) : (s.setSoundEvents q).mem = s.mem := rfl
@[simp] theorem setSoundEvents_config (q : List SoundEvent) : (s.setSoundEvents q).config = s.config := rfl
@[simp] theorem setSoundEvents_hostQueue (q : List SoundEvent) : (s.setSoundEvents q).hostQueue = s.hostQueue := rfl
@[simp] theorem setSoundEvents_yields (q : List SoundEvent) : (s.setSoundEvents q).yields = s.yields := rfl

/-! ### setSoundOutput -/

@[simp] theorem setSoundOutput_regs (q : List SoundEvent) : (s.setSoundOutput q).regs = s.regs := rfl
@[simp] theorem setSoundOutput_flags (q : List SoundEvent) : (s.setSoundOutput q).flags = s.flags := rfl
@[simp] theorem setSoundOutput_sp (q : List SoundEvent) : (s.setSoundOutput q).sp = s.sp := rfl
@[simp] theorem setSoundOutput_pc (q : List SoundEvent) : (s.setSoundOutput q).pc = s.pc := rfl
@[simp] theorem setSoundOutput_ie (q : List SoundEvent) : (s.setSoundOutput q).ie = s.ie := rfl
@[simp] theorem setSoundOutput_pending (q : List SoundEvent) : (s.setSoundOutput q).pending = s.pending := rfl
@[simp] theorem setSoundOutput_halted (q : List SoundEvent) : (s.setSoundOutput q).halted = s.halted := rfl
@[simp] theorem setSoundOutput_fault (q : List SoundEvent) : (s.setSoundOutput q).fault = s.fault := rfl
@[simp] theorem setSoundOutput_shiftRegister (q : List SoundEvent) : (s.setSoundOutput q).shiftRegister = s.shiftRegister := rfl
@[simp] theorem setSoundOutput_shiftAmount (q : List SoundEvent) : (s.setSoundOutput q).shiftAmount = s.shiftAmount := rfl
@[simp] theorem setSoundOutput_input (q : List SoundEvent) : (s.setSoundOutput q).input = s.input := rfl
@[simp] theorem setSoundOutput_soundLatch (q : List SoundEvent) : (s.setSoundOutput q).soundLatch = s.soundLatch := rfl
@[simp] theorem setSoundOutput_soundEvents (q : List SoundEvent) : (s.setSoundOutput q).soundEvents = s.soundEvents := rfl
@[simp] theorem setSoundOutput_soundOutput (q : List SoundEvent) : (s.setSoundOutput q).soundOutput = q := rfl
@[simp] theorem setSoundOutput_totalCycles (q : List SoundEvent) : (s.setSoundOutput q).totalCycles = s.totalCycles := rfl
@[simp] theorem setSoundOutput_halfCycles (q : List SoundEvent) : (s.setSoundOutput q).halfCycles = s.halfCycles := rfl
@[simp] theorem setSoundOutput_phase (q : List SoundEvent) : (s.setSoundOutput q).phase = s.phase := rfl
@[simp] theorem setSoundOutput_run (q : List SoundEvent) : (s.setSoundOutput q).run = s.run := rfl
@[simp] theorem setSoundOutput_mem (q : List SoundEvent) : (s.setSoundOutput q).mem = s.mem := rfl
@[simp] theorem setSoundOutput_config (q : List SoundEvent) : (s.setSoundOutput q).config = s.config := rfl
@[simp] theorem setSoundOutput_hostQueue (q : List SoundEvent) : (s.setSoundOutput q).hostQueue = s.hostQueue := rfl
@[simp] theorem setSoundOutput_yields (q : List SoundEvent) : (s.setSoundOutput q).yields = s.yields := rfl

/-! ### setInput -/

@[simp] theorem setInput_regs (m : Cells) : (s.setInput m).regs = s.regs := rfl
@[simp] theorem setInput_flags (m : Cells) : (s.setInput m).flags = s.flags := rfl
@[simp] theorem setInput_sp (m : Cells) : (s.setInput m).sp = s.sp := rfl
@[simp] theorem setInput_pc (m : Cells) : (s.setInput m).pc = s.pc := rfl
@[simp] theorem setInput_ie (m : Cells) : (s.setInput m).ie = s.ie := rfl
@[simp] theorem setInput_pending (m : Cells) : (s.setInput m).pending = s.pending := rfl
@[simp] theorem setInput_halted (m : Cells) : (s.setInput m).halted = s.halted := rfl
@[simp] theorem setInput_fault (m : Cells) : (s.setInput m).fault = s.fault := rfl
@[simp] theorem setInput_shiftRegister (m : Cells) : (s.setInput m).shiftRegister = s.shiftRegister := rfl
@[simp] theorem setInput_shiftAmount (m : Cells) : (s.setInput m).shiftAmount = s.shiftAmount := rfl
@[simp] theorem setInput_input (m : Cells) : (s.setInput m).input = m := rfl
@[simp] theorem setInput_soundLatch (m : Cells) : (s.setInput m).soundLatch = s.soundLatch := rfl
@[simp] theorem setInput_soundEvents (m : Cells) : (s.setInput m).soundEvents = s.soundEvents := rfl
@[simp] theorem setInput_soundOutput (m : Cells) : (s.setInput m).soundOutput = s.soundOutput := rfl
@[simp] theorem setInput_totalCycles (m : Cells) : (s.setInput m).totalCycles = s.totalCycles := rfl
@[simp] theorem setInput_halfCycles (m : Cells) : (s.setInput m).halfCycles = s.halfCycles := rfl
@[simp] theorem setInput_phase (m : Cells) : (s.setInput m).phase = s.phase := rfl
@[simp] theorem setInput_run (m : Cells) : (s.setInput m).run = s.run := rfl
@[simp] theorem setInput_mem (m : Cells) : (s.setInput m).mem = s.mem := rfl
@[simp] theorem setInput_config (m : Cells) : (s.setInput m).config = s.config := rfl
@[simp] theorem setInput_hostQueue (m : Cells) : (s.setInput m).hostQueue = s.hostQueue := rfl
@[simp] theorem setInput_yields (m : Cells) : (s.setInput m).yields = s.yields := rfl

/-! ### setPacing -/

@[simp] theorem setPacing_regs (total half : Nat) : (s.setPacing total half).regs = s.regs := rfl
@[simp] theorem setPacing_flags (total half : Nat) : (s.setPacing total half).flags = s.flags := rfl
@[simp] theorem setPacing_sp (total half : Nat) : (s.setPacing total half).sp = s.sp := rfl
@[simp] theorem setPacing_pc (total half : Nat) : (s.setPacing total half).pc = s.pc := rfl
@[simp] theorem setPacing_ie (total half : Nat) : (s.setPacing total half).ie = s.ie := rfl
@[simp] theorem setPacing_pending (total half : Nat) : (s.setPacing total half).pending = s.pending := rfl
@[simp] theorem setPacing_halted (total half : Nat) : (s.setPacing total half).halted = s.halted := rfl
@[simp] theorem setPacing_fault (total half : Nat) : (s.setPacing total half).fault = s.fault := rfl
@[simp] theorem setPacing_shiftRegister (total half : Nat) : (s.setPacing total half).shiftRegister = s.shiftRegister := rfl
@[simp] theorem setPacing_shiftAmount (total half : Nat) : (s.setPacing total half).shiftAmount = s.shiftAmount := rfl
@[simp] theorem setPacing_input (total half : Nat) : (s.setPacing total half).input = s.input := rfl
@[simp] theorem setPacing_soundLatch (total half : Nat) : (s.setPacing total half).soundLatch = s.soundLatch := rfl
@[simp] theorem setPacing_soundEvents (total half : Nat) : (s.setPacing total half).soundEvents = s.soundEvents := rfl
@[simp] theorem setPacing_soundOutput (total half : Nat) : (s.setPacing total half).soundOutput = s.soundOutput := rfl
@[simp] theorem setPacing_totalCycles (total half : Nat) : (s.setPacing total half).totalCycles = total := rfl
@[simp] theorem setPacing_halfCycles (total half : Nat) : (s.setPacing total half).halfCycles = half := rfl
@[simp] theorem setPacing_phase (total half : Nat) : (s.setPacing total half).phase = s.phase := rfl
@[simp] theorem setPacing_run (total half : Nat) : (s.setPacing total half).run = s.run := rfl
@[simp] theorem setPacing_mem (total half : Nat) : (s.setPacing total half).mem = s.mem := rfl
@[simp] theorem setPacing_config (total half : Nat) : (s.setPacing total half).config = s.config := rfl
@[simp] theorem setPacing_hostQueue (total half : Nat) : (s.setPacing total half).hostQueue = s.hostQueue := rfl
@[simp] theorem setPacing_yields (total half : Nat) : (s.setPacing total half).yields = s.yields := rfl

/-! ### setPhase -/

@[simp] theorem setPhase_regs (p : Phase) : (s.setPhase p).regs = s.regs := rfl
@[simp] theorem setPhase_flags (p : Phase) : (s.setPhase p).flags = s.flags := rfl
@[simp] theorem setPhase_sp (p : Phase) : (s.setPhase p).sp = s.sp := rfl
@[simp] theorem setPhase_pc (p : Phase) : (s.setPhase p).pc = s.pc := rfl
@[simp] theorem setPhase_ie (p : Phase) : (s.setPhase p).ie = s.ie := rfl
@[simp] theorem setPhase_pending (p : Phase) : (s.setPhase p).pending = s.pending := rfl
@[simp] theorem setPhase_halted (p : Phase) : (s.setPhase p).halted = s.halted := rfl
@[simp] theorem setPhase_fault (p : Phase) : (s.setPhase p).fault = s.fault := rfl
@[simp] theorem setPhase_shiftRegister (p : Phase) : (s.setPhase p).shiftRegister = s.shiftRegister := rfl
@[simp] theorem setPhase_shiftAmount (p : Phase) : (s.setPhase p).shiftAmount = s.shiftAmount := rfl
@[simp] theorem setPhase_input (p : Phase) : (s.setPhase p).input = s.input := rfl
@[simp] theorem setPhase_soundLatch (p : Phase) : (s.setPhase p).soundLatch = s.soundLatch := rfl
@[simp] theorem setPhase_soundEvents (p : Phase) : (s.setPhase p).soundEvents = s.soundEvents := rfl
@[simp] theorem setPhase_soundOutput (p : Phase) : (s.setPhase p).soundOutput = s.soundOutput := rfl
@[simp] theorem setPhase_totalCycles (p : Phase) : (s.setPhase p).totalCycles = s.totalCycles := rfl
@[simp] theorem setPhase_halfCycles (p : Phase) : (s.setPhase p).halfCycles = s.halfCycles := rfl
@[simp] theorem setPhase_phase (p : Phase) : (s.setPhase p).phase = p := rfl
@[simp] theorem setPhase_run (p : Phase) : (s.setPhase p).run = s.run := rfl
@[simp] theorem setPhase_mem (p : Phase) : (s.setPhase p).mem = s.mem := rfl
@[simp] theorem setPhase_config (p : Phase) : (s.setPhase p).config = s.config := rfl
@[simp] theorem setPhase_hostQueue (p : Phase) : (s.setPhase p).hostQueue = s.hostQueue := rfl
@[simp] theorem setPhase_yields (p : Phase) : (s.setPhase p).yields = s.yields := rfl

/-! ### setRun -/

@[simp] theorem setRun_regs (r : RunStatus) : (s.setRun r).regs = s.regs := rfl
@[simp] theorem setRun_flags (r : RunStatus) : (s.setRun r).flags = s.flags := rfl
@[simp] theorem setRun_sp (r : RunStatus) : (s.setRun r).sp = s.sp := rfl
@[simp] theorem setRun_pc (r : RunStatus) : (s.setRun r).pc = s.pc := rfl
@[simp] theorem setRun_ie (r : RunStatus) : (s.setRun r).ie = s.ie := rfl
@[simp] theorem setRun_pending (r : RunStatus) : (s.setRun r).pending = s.pending := rfl
@[simp] theorem setRun_halted (r : RunStatus) : (s.setRun r).halted = s.halted := rfl
@[simp] theorem setRun_fault (r : RunStatus) : (s.setRun r).fault = s.fault := rfl
@[simp] theorem setRun_shiftRegister (r : RunStatus) : (s.setRun r).shiftRegister = s.shiftRegister := rfl
@[simp] theorem setRun_shiftAmount (r : RunStatus) : (s.setRun r).shiftAmount = s.shiftAmount := rfl
@[simp] theorem setRun_input (r : RunStatus) : (s.setRun r).input = s.input := rfl
@[simp] theorem setRun_soundLatch (r : RunStatus) : (s.setRun r).soundLatch = s.soundLatch := rfl
@[simp] theorem setRun_soundEvents (r : RunStatus) : (s.setRun r).soundEvents = s.soundEvents := rfl
@[simp] theorem setRun_soundOutput (r : RunStatus) : (s.setRun r).soundOutput = s.soundOutput := rfl
@[simp] theorem setRun_totalCycles (r : RunStatus) : (s.setRun r).totalCycles = s.totalCycles := rfl
@[simp] theorem setRun_halfCycles (r : RunStatus) : (s.setRun r).halfCycles = s.halfCycles := rfl
@[simp] theorem setRun_phase (r : RunStatus) : (s.setRun r).phase = s.phase := rfl
@[simp] theorem setRun_run (r : RunStatus) : (s.setRun r).run = r := rfl
@[simp] theorem setRun_mem (r : RunStatus) : (s.setRun r).mem = s.mem := rfl
@[simp] theorem setRun_config (r : RunStatus) : (s.setRun r).config = s.config := rfl
@[simp] theorem setRun_hostQueue (r : RunStatus) : (s.setRun r).hostQueue = s.hostQueue := rfl
@[simp] theorem setRun_yields (r : RunStatus) : (s.setRun r).yields = s.yields := rfl

/-! ### setHost -/

@[simp] theorem setHost_regs (q : List HostSample) (n : Nat) : (s.setHost q n).regs = s.regs := rfl
@[simp] theorem setHost_flags (q : List HostSample) (n : Nat) : (s.setHost q n).flags = s.flags := rfl
@[simp] theorem setHost_sp (q : List HostSample) (n : Nat) : (s.setHost q n).sp = s.sp := rfl
@[simp] theorem setHost_pc (q : List HostSample) (n : Nat) : (s.setHost q n).pc = s.pc := rfl
@[simp] theorem setHost_ie (q : List HostSample) (n : Nat) : (s.setHost q n).ie = s.ie := rfl
@[simp] theorem setHost_pending (q : List HostSample) (n : Nat) : (s.setHost q n).pending = s.pending := rfl
@[simp] theorem setHost_halted (q : List HostSample) (n : Nat) : (s.setHost q n).halted = s.halted := rfl
@[simp] theorem setHost_fault (q : List HostSample) (n : Nat) : (s.setHost q n).fault = s.fault := rfl
@[simp] theorem setHost_shiftRegister (q : List HostSample) (n : Nat) : (s.setHost q n).shiftRegister = s.shiftRegister := rfl
@[simp] theorem setHost_shiftAmount (q : List HostSample) (n : Nat) : (s.setHost q n).shiftAmount = s.shiftAmount := rfl
@[simp] theorem setHost_input (q : List HostSample) (n : Nat) : (s.setHost q n).input = s.input := rfl
@[simp] theorem setHost_soundLatch (q : List HostSample) (n : Nat) : (s.setHost q n).soundLatch = s.soundLatch := rfl
@[simp] theorem setHost_soundEvents (q : List HostSample) (n : Nat) : (s.setHost q n).soundEvents = s.soundEvents := rfl
@[simp] theorem setHost_soundOutput (q : List HostSample) (n : Nat) : (s.setHost q n).soundOutput = s.soundOutput := rfl
@[simp] theorem setHost_totalCycles (q : List HostSample) (n : Nat) : (s.setHost q n).totalCycles = s.totalCycles := rfl
@[simp] theorem setHost_halfCycles (q : List HostSample) (n : Nat) : (s.setHost q n).halfCycles = s.halfCycles := rfl
@[simp] theorem setHost_phase (q : List HostSample) (n : Nat) : (s.setHost q n).phase = s.phase := rfl
@[simp] theorem setHost_run (q : List HostSample) (n : Nat) : (s.setHost q n).run = s.run := rfl
@[simp] theorem setHost_mem (q : List HostSample) (n : Nat) : (s.setHost q n).mem = s.mem := rfl
@[simp] theorem setHost_config (q : List HostSample) (n : Nat) : (s.setHost q n).config = s.config := rfl
@[simp] theorem setHost_hostQueue (q : List HostSample) (n : Nat) : (s.setHost q n).hostQueue = q := rfl
@[simp] theorem setHost_yields (q : List HostSample) (n : Nat) : (s.setHost q n).yields = n := rfl

end Sys2Proof.Machine
end

