-- ==== Sys2Proof/Laws/Memory.lean ====
section
/-! SUPPORT. Cells and memory: read after write, and every write keeps the canonical form (20_memory.md R64 to R67). -/

namespace Sys2Proof.Machine

theorem get_nil (a : Nat) : Cells.get [] a = Cells.unlisted := rfl

theorem get_cons (k : Nat) (v : Byte) (t : Cells) (a : Nat) :
    Cells.get ((k, v) :: t) a = if a < k then Cells.unlisted else if a = k then v else Cells.get t a := rfl

/-- Dropping a prefix of keys up to `a` changes no read above `a`. -/
theorem get_dropWhile_above (t : Cells) {a b : Nat} (h : a < b) :
    Cells.get (t.dropWhile (fun c => decide (c.1 ≤ a))) b = Cells.get t b := by
  induction t with
  | nil => rfl
  | cons c t ih =>
    obtain ⟨k, v⟩ := c
    by_cases hk : k ≤ a
    · simp only [List.dropWhile_cons, hk, decide_true, if_true, ih, get_cons]
      rw [if_neg (by omega), if_neg (by omega)]
    · simp [hk]

/-- After the drop nothing up to `a` is listed. -/
theorem get_dropWhile_upto (t : Cells) {a b : Nat} (h : b ≤ a) :
    Cells.get (t.dropWhile (fun c => decide (c.1 ≤ a))) b = Cells.unlisted := by
  induction t with
  | nil => rfl
  | cons c t ih =>
    obtain ⟨k, v⟩ := c
    by_cases hk : k ≤ a
    · simpa [List.dropWhile_cons, hk] using ih
    · simp only [List.dropWhile_cons, hk, decide_false, get_cons, Bool.false_eq_true, if_false]
      rw [if_pos (by omega)]

/-- A read after a write: the value written at the key written, the old value anywhere else. -/
theorem get_set (m : Cells) (a b : Nat) (v : Byte) :
    Cells.get (Cells.set m a v) b = if b = a then v else Cells.get m b := by
  induction m with
  | nil =>
    by_cases hv : v = Cells.unlisted <;> by_cases hb : b = a <;> simp [Cells.set, Cells.get, hv, hb]
  | cons c t ih =>
    obtain ⟨k, w⟩ := c
    simp only [Cells.set]
    by_cases h1 : a < k
    · by_cases hv : v = Cells.unlisted
      · simp only [h1, if_true, hv, get_cons]
        by_cases hb : b = a
        · simp [hb, h1]
        · simp [hb]
      · simp only [h1, if_true, hv, if_false, get_cons]
        by_cases hb : b = a
        · simp [hb]
        · by_cases hlt : b < a
          · have hk : b < k := by omega
            simp [hb, hlt, hk]
          · simp [hb, hlt]
    · by_cases h2 : a = k
      · subst h2
        simp only [Nat.lt_irrefl, if_false, if_true]
        by_cases hv : v = Cells.unlisted
        · simp only [hv, if_true]
          by_cases hb : b ≤ a
          · rw [get_dropWhile_upto t hb, get_cons]
            by_cases he : b = a
            · simp [he]
            · rw [if_neg he, if_pos (by omega)]
          · rw [get_dropWhile_above t (by omega), get_cons]
            rw [if_neg (by omega), if_neg (by omega), if_neg (by omega)]
        · simp only [hv, if_false, get_cons]
          by_cases he : b = a
          · simp [he]
          · simp [he]
      · simp only [h1, h2, if_false, get_cons, ih]
        by_cases hb : b = a
        · subst hb
          simp [h1, h2]
        · simp [hb]

@[simp] theorem get_set_same (m : Cells) (a : Nat) (v : Byte) : Cells.get (Cells.set m a v) a = v := by
  simp [get_set]

theorem get_set_other (m : Cells) {a b : Nat} (v : Byte) (h : b ≠ a) :
    Cells.get (Cells.set m a v) b = Cells.get m b := by
  simp [get_set, h]

theorem wf_nil (n : Nat) : Cells.wf n [] = true := rfl

theorem wf_cons (n k : Nat) (v : Byte) (t : Cells) :
    Cells.wf n ((k, v) :: t) = true ↔
      k < n ∧ v ≠ Cells.unlisted ∧ (∀ c ∈ t, k < c.1) ∧ Cells.wf n t = true := by
  simp [Cells.wf, and_assoc]

/-- On a canonical list whose keys all lie above `a` the drop does nothing. -/
theorem dropWhile_above (t : Cells) {a : Nat} (h : ∀ c ∈ t, a < c.1) :
    t.dropWhile (fun c => decide (c.1 ≤ a)) = t := by
  cases t with
  | nil => rfl
  | cons c t =>
    have := h c (by simp)
    have hn : ¬ c.1 ≤ a := by omega
    simp [hn]

/-- The keys after a write are the old ones and the one written. -/
theorem mem_set_key (m : Cells) (a : Nat) (v : Byte) :
    ∀ c ∈ Cells.set m a v, c.1 = a ∨ c ∈ m := by
  induction m with
  | nil =>
    intro c hc
    by_cases hv : v = Cells.unlisted
    · simp [Cells.set, hv] at hc
    · simp only [Cells.set, hv, if_false, List.mem_singleton] at hc
      exact .inl (by rw [hc])
  | cons x t ih =>
    obtain ⟨k, w⟩ := x
    intro c hc
    simp only [Cells.set] at hc
    split at hc
    · split at hc
      · exact .inr hc
      · rcases List.mem_cons.mp hc with h | h
        · exact .inl (by rw [h])
        · exact .inr h
    · split at hc
      · split at hc
        · exact .inr (List.mem_cons_of_mem _ ((List.dropWhile_sublist _).subset hc))
        · rcases List.mem_cons.mp hc with h | h
          · exact .inl (by rw [h])
          · exact .inr (List.mem_cons_of_mem _ h)
      · rcases List.mem_cons.mp hc with h | h
        · exact .inr (by rw [h]; exact List.mem_cons_self ..)
        · rcases ih c h with h' | h'
          · exact .inl h'
          · exact .inr (List.mem_cons_of_mem _ h')

/-- Every write keeps the canonical form. -/
theorem wf_set (n : Nat) (m : Cells) (a : Nat) (v : Byte) (ha : a < n) (h : Cells.wf n m = true) :
    Cells.wf n (Cells.set m a v) = true := by
  induction m with
  | nil =>
    by_cases hv : v = Cells.unlisted
    · simp [Cells.set, hv, wf_nil]
    · simp only [Cells.set, hv, if_false]
      exact (wf_cons ..).mpr ⟨ha, hv, by simp, wf_nil n⟩
  | cons x t ih =>
    obtain ⟨k, w⟩ := x
    obtain ⟨hk, hw, hall, ht⟩ := (wf_cons ..).mp h
    simp only [Cells.set]
    split
    · rename_i hlt
      split
      · exact h
      · rename_i hv
        refine (wf_cons ..).mpr ⟨ha, hv, ?_, h⟩
        intro c hc
        rcases List.mem_cons.mp hc with e | e
        · rw [e]; exact hlt
        · exact Nat.lt_trans hlt (hall c e)
    · split
      · rename_i _ he
        subst he
        split
        · rw [dropWhile_above t hall]; exact ht
        · rename_i hv
          exact (wf_cons ..).mpr ⟨ha, hv, hall, ht⟩
      · rename_i hnlt hne
        refine (wf_cons ..).mpr ⟨hk, hw, ?_, ih ht⟩
        intro c hc
        rcases mem_set_key t a v c hc with e | e
        · omega
        · exact hall c e

/-! ## Memory -/

theorem wf_setMem {s : State} (h : Memory.wf s.mem = true) (a : Word) (v : Byte) :
    Memory.wf (Cells.set s.mem a.toNat v) = true :=
  wf_set 65536 s.mem a.toNat v a.isLt h

/-- `MemRead` sees only memory. -/
theorem read8_eq_of_mem {s t : State} (h : t.mem = s.mem) (a : Word) : t.read8 a = s.read8 a := by
  simp [State.read8, h]

/-! ### A read sees only memory -/

@[simp] theorem read8_setReg (s : State) (r : Reg) (v : Byte) (x : Word) : (s.setReg r v).read8 x = s.read8 x := rfl
@[simp] theorem read8_setFlags (s : State) (f : Flags) (x : Word) : (s.setFlags f).read8 x = s.read8 x := rfl
@[simp] theorem read8_setSp (s : State) (v : Word) (x : Word) : (s.setSp v).read8 x = s.read8 x := rfl
@[simp] theorem read8_setPc (s : State) (v : Word) (x : Word) : (s.setPc v).read8 x = s.read8 x := rfl
@[simp] theorem read8_setIe (s : State) (b : Bool) (x : Word) : (s.setIe b).read8 x = s.read8 x := rfl
@[simp] theorem read8_setPending (s : State) (v : Option (BitVec 3)) (x : Word) : (s.setPending v).read8 x = s.read8 x := rfl
@[simp] theorem read8_setHalted (s : State) (b : Bool) (x : Word) : (s.setHalted b).read8 x = s.read8 x := rfl
@[simp] theorem read8_setFault (s : State) (e : Option FatalError) (x : Word) : (s.setFault e).read8 x = s.read8 x := rfl
@[simp] theorem read8_setShiftRegister (s : State) (v : Word) (x : Word) : (s.setShiftRegister v).read8 x = s.read8 x := rfl
@[simp] theorem read8_setShiftAmount (s : State) (v : BitVec 3) (x : Word) : (s.setShiftAmount v).read8 x = s.read8 x := rfl
@[simp] theorem read8_setSoundLatch (s : State) (m : Cells) (x : Word) : (s.setSoundLatch m).read8 x = s.read8 x := rfl
@[simp] theorem read8_setSoundEvents (s : State) (q : List SoundEvent) (x : Word) : (s.setSoundEvents q).read8 x = s.read8 x := rfl
@[simp] theorem read8_setSoundOutput (s : State) (q : List SoundEvent) (x : Word) : (s.setSoundOutput q).read8 x = s.read8 x := rfl
@[simp] theorem read8_setInput (s : State) (m : Cells) (x : Word) : (s.setInput m).read8 x = s.read8 x := rfl
@[simp] theorem read8_setPacing (s : State) (n k : Nat) (x : Word) : (s.setPacing n k).read8 x = s.read8 x := rfl
@[simp] theorem read8_setPhase (s : State) (p : Phase) (x : Word) : (s.setPhase p).read8 x = s.read8 x := rfl
@[simp] theorem read8_setRun (s : State) (r : RunStatus) (x : Word) : (s.setRun r).read8 x = s.read8 x := rfl
@[simp] theorem read8_setHost (s : State) (q : List HostSample) (n : Nat) (x : Word) : (s.setHost q n).read8 x = s.read8 x := rfl

/-- Everything a byte write can do: nothing, if it is dropped; otherwise that byte of memory and no other field. -/
theorem write8_cases (s : State) (a : Word) (v : Byte) :
    (dropsWrite s.config a = true ∧ s.write8 a v = s) ∨
      (dropsWrite s.config a = false ∧ s.write8 a v = s.setMem (Cells.set s.mem a.toNat v)) := by
  unfold State.write8
  cases h : dropsWrite s.config a
  · right; simp
  · left; simp

/-- A byte read after a byte write (R64, R66). -/
theorem read8_write8 (s : State) (a b : Word) (v : Byte) :
    (s.write8 a v).read8 b = if b = a ∧ dropsWrite s.config a = false then v else s.read8 b := by
  rcases write8_cases s a v with ⟨h, e⟩ | ⟨h, e⟩
  · simp [e, h]
  · rw [e]
    by_cases hb : b = a
    · subst hb; simp [State.read8, h]
    · have hn : b.toNat ≠ a.toNat := fun hh => hb (BitVec.eq_of_toNat_eq hh)
      simp [State.read8, hb, get_set_other _ _ hn]

theorem read8_write8_other (s : State) {a b : Word} (v : Byte) (h : b ≠ a) : (s.write8 a v).read8 b = s.read8 b := by
  simp [read8_write8, h]

theorem wf_write8 {s : State} (h : Memory.wf s.mem = true) (a : Word) (v : Byte) :
    Memory.wf (s.write8 a v).mem = true := by
  rcases write8_cases s a v with ⟨_, e⟩ | ⟨_, e⟩ <;> rw [e]
  · exact h
  · exact wf_setMem h a v

/-- No write drops under `RomWritePolicy = apply` (R63). -/
theorem dropsWrite_apply {c : Config} (h : c.romWritePolicy = .apply) (a : Word) : dropsWrite c a = false := by
  simp [dropsWrite, h]

end Sys2Proof.Machine
end

