-- ==== Sys2Proof/Laws/Exec.lean ====
section
/-! SUPPORT. What exec does, by family: the one inversion lemma that statements over all instructions cite instead of splitting 245
arms. -/

namespace Sys2Proof.Machine

/-- The accumulator operation of a selector (R92). -/
def aluEffect (op : AluOp) (v : Byte) (s : State) : State :=
  match op with
  | .add => s.addTo v false
  | .adc => s.addTo v s.flags.cy
  | .sub => s.subFrom v false
  | .sbb => s.subFrom v s.flags.cy
  | .ana => s.andWith v
  | .xra => s.xorWith v
  | .ora => s.orWith v
  | .cmp => s.compareWith v

/-- The effect of a family on a state whose PC is past the instruction. -/
def effect (f : Form) (s : State) : State :=
  match f with
  | .mov d src => s.setOperand d (s.operand src)
  | .mvi d d8 => s.setOperand d d8
  | .lxi p d16 => s.setPair p d16
  | .lda a16 => s.setReg .a (s.read8 a16)
  | .sta a16 => s.write8 a16 (s.reg .a)
  | .lhld a16 => s.setHl (s.read16 a16)
  | .shld a16 => s.write16 a16 s.hl
  | .ldax p => s.setReg .a (s.read8 (s.pair (indexPairOf p)))
  | .stax p => s.write8 (s.pair (indexPairOf p)) (s.reg .a)
  | .xchg => s.exchangeDeHl
  | .alu op src => aluEffect op (s.operand src) s
  | .aluImm op d8 => aluEffect op d8 s
  | .inr o => s.increment o
  | .dcr o => s.decrement o
  | .inx p => s.setPair p (s.pair p + 1)
  | .dcx p => s.setPair p (s.pair p - 1)
  | .dad p => s.addToHl (s.pair p)
  | .daa => s.decimalAdjust
  | .rlc => s.rotate (rlc8 (s.reg .a))
  | .rrc => s.rotate (rrc8 (s.reg .a))
  | .ral => s.rotate (ral8 (s.reg .a) s.flags.cy)
  | .rar => s.rotate (rar8 (s.reg .a) s.flags.cy)
  | .cma => s.setReg .a (~~~(s.reg .a))
  | .cmc => s.setCarry (!s.flags.cy)
  | .stc => s.setCarry true
  | .jmp a16 => s.setPc a16
  | .jcc cc a16 => s.onCondition cc (s.setPc a16)
  | .call a16 => s.callTo a16
  | .ccc cc a16 => s.onCondition cc (s.callTo a16)
  | .ret => s.returnFromCall
  | .rcc cc => s.onCondition cc s.returnFromCall
  | .rst n => s.callTo (vectorAddress n)
  | .pchl => s.setPc s.hl
  | .push p => s.push16 (s.pair (stackPairOf p))
  | .pop p => s.popped.setPair (stackPairOf p) s.popValue
  | .pushPsw => s.push16 s.psw
  | .popPsw => s.popped.setPsw s.popValue
  | .xthl => s.exchangeTopHl
  | .sphl => s.setSp s.hl
  | .inPort p8 => s.setReg .a (s.portIn p8)
  | .outPort p8 => s.portOut p8 (s.reg .a)
  | .ei => s.setIe true
  | .di => s.setIe false
  | .hlt => s.setHalted true
  | .nop => s
  | .unsupported op => s.raiseFatal (.unsupportedOpcode s.pc op)

/-- Every instruction completes, with the effect of its family. -/
theorem exec_eq_effect (i : Instr) (s : State) : exec i s = .next (effect i.form s) := by
  cases i <;> rfl

/-- The only next state of an instruction. -/
theorem exec_next {i : Instr} {s t : State} (h : exec i s = .next t) : t = effect i.form s := by
  rw [exec_eq_effect] at h
  exact (Host.Outcome.next.inj h).symm

end Sys2Proof.Machine
end

