-- ==== Sys2Proof/Laws/Ops.lean ====
section
/-! SUPPORT. What the shared operations leave alone, one lemma for each field, and what instructions never touch. -/

namespace Sys2Proof.Machine

variable (s : State)

/-! ### write8: memory only -/

@[simp] theorem write8_regs (a : Word) (v : Byte) : (s.write8 a v).regs = s.regs := by
  rcases write8_cases s a v with ⟨_, e⟩ | ⟨_, e⟩ <;> simp [e]
@[simp] theorem write8_flags (a : Word) (v : Byte) : (s.write8 a v).flags = s.flags := by
  rcases write8_cases s a v with ⟨_, e⟩ | ⟨_, e⟩ <;> simp [e]
@[simp] theorem write8_sp (a : Word) (v : Byte) : (s.write8 a v).sp = s.sp := by
  rcases write8_cases s a v with ⟨_, e⟩ | ⟨_, e⟩ <;> simp [e]
@[simp] theorem write8_pc (a : Word) (v : Byte) : (s.write8 a v).pc = s.pc := by
  rcases write8_cases s a v with ⟨_, e⟩ | ⟨_, e⟩ <;> simp [e]
@[simp] theorem write8_ie (a : Word) (v : Byte) : (s.write8 a v).ie = s.ie := by
  rcases write8_cases s a v with ⟨_, e⟩ | ⟨_, e⟩ <;> simp [e]
@[simp] theorem write8_pending (a : Word) (v : Byte) : (s.write8 a v).pending = s.pending := by
  rcases write8_cases s a v with ⟨_, e⟩ | ⟨_, e⟩ <;> simp [e]
@[simp] theorem write8_halted (a : Word) (v : Byte) : (s.write8 a v).halted = s.halted := by
  rcases write8_cases s a v with ⟨_, e⟩ | ⟨_, e⟩ <;> simp [e]
@[simp] theorem write8_fault (a : Word) (v : Byte) : (s.write8 a v).fault = s.fault := by
  rcases write8_cases s a v with ⟨_, e⟩ | ⟨_, e⟩ <;> simp [e]
@[simp] theorem write8_shiftRegister (a : Word) (v : Byte) : (s.write8 a v).shiftRegister = s.shiftRegister := by
  rcases write8_cases s a v with ⟨_, e⟩ | ⟨_, e⟩ <;> simp [e]
@[simp] theorem write8_shiftAmount (a : Word) (v : Byte) : (s.write8 a v).shiftAmount = s.shiftAmount := by
  rcases write8_cases s a v with ⟨_, e⟩ | ⟨_, e⟩ <;> simp [e]
@[simp] theorem write8_input (a : Word) (v : Byte) : (s.write8 a v).input = s.input := by
  rcases write8_cases s a v with ⟨_, e⟩ | ⟨_, e⟩ <;> simp [e]
@[simp] theorem write8_soundLatch (a : Word) (v : Byte) : (s.write8 a v).soundLatch = s.soundLatch := by
  rcases write8_cases s a v with ⟨_, e⟩ | ⟨_, e⟩ <;> simp [e]
@[simp] theorem write8_soundEvents (a : Word) (v : Byte) : (s.write8 a v).soundEvents = s.soundEvents := by
  rcases write8_cases s a v with ⟨_, e⟩ | ⟨_, e⟩ <;> simp [e]
@[simp] theorem write8_soundOutput (a : Word) (v : Byte) : (s.write8 a v).soundOutput = s.soundOutput := by
  rcases write8_cases s a v with ⟨_, e⟩ | ⟨_, e⟩ <;> simp [e]
@[simp] theorem write8_totalCycles (a : Word) (v : Byte) : (s.write8 a v).totalCycles = s.totalCycles := by
  rcases write8_cases s a v with ⟨_, e⟩ | ⟨_, e⟩ <;> simp [e]
@[simp] theorem write8_halfCycles (a : Word) (v : Byte) : (s.write8 a v).halfCycles = s.halfCycles := by
  rcases write8_cases s a v with ⟨_, e⟩ | ⟨_, e⟩ <;> simp [e]
@[simp] theorem write8_phase (a : Word) (v : Byte) : (s.write8 a v).phase = s.phase := by
  rcases write8_cases s a v with ⟨_, e⟩ | ⟨_, e⟩ <;> simp [e]
@[simp] theorem write8_run (a : Word) (v : Byte) : (s.write8 a v).run = s.run := by
  rcases write8_cases s a v with ⟨_, e⟩ | ⟨_, e⟩ <;> simp [e]
@[simp] theorem write8_config (a : Word) (v : Byte) : (s.write8 a v).config = s.config := by
  rcases write8_cases s a v with ⟨_, e⟩ | ⟨_, e⟩ <;> simp [e]
@[simp] theorem write8_hostQueue (a : Word) (v : Byte) : (s.write8 a v).hostQueue = s.hostQueue := by
  rcases write8_cases s a v with ⟨_, e⟩ | ⟨_, e⟩ <;> simp [e]
@[simp] theorem write8_yields (a : Word) (v : Byte) : (s.write8 a v).yields = s.yields := by
  rcases write8_cases s a v with ⟨_, e⟩ | ⟨_, e⟩ <;> simp [e]

/-! ### write16 -/

@[simp] theorem write16_regs (a v : Word) : (s.write16 a v).regs = s.regs := by
  simp [State.write16]
@[simp] theorem write16_flags (a v : Word) : (s.write16 a v).flags = s.flags := by
  simp [State.write16]
@[simp] theorem write16_sp (a v : Word) : (s.write16 a v).sp = s.sp := by
  simp [State.write16]
@[simp] theorem write16_pc (a v : Word) : (s.write16 a v).pc = s.pc := by
  simp [State.write16]
@[simp] theorem write16_ie (a v : Word) : (s.write16 a v).ie = s.ie := by
  simp [State.write16]
@[simp] theorem write16_pending (a v : Word) : (s.write16 a v).pending = s.pending := by
  simp [State.write16]
@[simp] theorem write16_halted (a v : Word) : (s.write16 a v).halted = s.halted := by
  simp [State.write16]
@[simp] theorem write16_fault (a v : Word) : (s.write16 a v).fault = s.fault := by
  simp [State.write16]
@[simp] theorem write16_shiftRegister (a v : Word) : (s.write16 a v).shiftRegister = s.shiftRegister := by
  simp [State.write16]
@[simp] theorem write16_shiftAmount (a v : Word) : (s.write16 a v).shiftAmount = s.shiftAmount := by
  simp [State.write16]
@[simp] theorem write16_input (a v : Word) : (s.write16 a v).input = s.input := by
  simp [State.write16]
@[simp] theorem write16_soundLatch (a v : Word) : (s.write16 a v).soundLatch = s.soundLatch := by
  simp [State.write16]
@[simp] theorem write16_soundEvents (a v : Word) : (s.write16 a v).soundEvents = s.soundEvents := by
  simp [State.write16]
@[simp] theorem write16_soundOutput (a v : Word) : (s.write16 a v).soundOutput = s.soundOutput := by
  simp [State.write16]
@[simp] theorem write16_totalCycles (a v : Word) : (s.write16 a v).totalCycles = s.totalCycles := by
  simp [State.write16]
@[simp] theorem write16_halfCycles (a v : Word) : (s.write16 a v).halfCycles = s.halfCycles := by
  simp [State.write16]
@[simp] theorem write16_phase (a v : Word) : (s.write16 a v).phase = s.phase := by
  simp [State.write16]
@[simp] theorem write16_run (a v : Word) : (s.write16 a v).run = s.run := by
  simp [State.write16]
@[simp] theorem write16_config (a v : Word) : (s.write16 a v).config = s.config := by
  simp [State.write16]
@[simp] theorem write16_hostQueue (a v : Word) : (s.write16 a v).hostQueue = s.hostQueue := by
  simp [State.write16]
@[simp] theorem write16_yields (a v : Word) : (s.write16 a v).yields = s.yields := by
  simp [State.write16]

/-! ### push16 -/

@[simp] theorem push16_regs (v : Word) : (s.push16 v).regs = s.regs := by
  simp [State.push16]
@[simp] theorem push16_flags (v : Word) : (s.push16 v).flags = s.flags := by
  simp [State.push16]
@[simp] theorem push16_pc (v : Word) : (s.push16 v).pc = s.pc := by
  simp [State.push16]
@[simp] theorem push16_ie (v : Word) : (s.push16 v).ie = s.ie := by
  simp [State.push16]
@[simp] theorem push16_pending (v : Word) : (s.push16 v).pending = s.pending := by
  simp [State.push16]
@[simp] theorem push16_halted (v : Word) : (s.push16 v).halted = s.halted := by
  simp [State.push16]
@[simp] theorem push16_fault (v : Word) : (s.push16 v).fault = s.fault := by
  simp [State.push16]
@[simp] theorem push16_shiftRegister (v : Word) : (s.push16 v).shiftRegister = s.shiftRegister := by
  simp [State.push16]
@[simp] theorem push16_shiftAmount (v : Word) : (s.push16 v).shiftAmount = s.shiftAmount := by
  simp [State.push16]
@[simp] theorem push16_input (v : Word) : (s.push16 v).input = s.input := by
  simp [State.push16]
@[simp] theorem push16_soundLatch (v : Word) : (s.push16 v).soundLatch = s.soundLatch := by
  simp [State.push16]
@[simp] theorem push16_soundEvents (v : Word) : (s.push16 v).soundEvents = s.soundEvents := by
  simp [State.push16]
@[simp] theorem push16_soundOutput (v : Word) : (s.push16 v).soundOutput = s.soundOutput := by
  simp [State.push16]
@[simp] theorem push16_totalCycles (v : Word) : (s.push16 v).totalCycles = s.totalCycles := by
  simp [State.push16]
@[simp] theorem push16_halfCycles (v : Word) : (s.push16 v).halfCycles = s.halfCycles := by
  simp [State.push16]
@[simp] theorem push16_phase (v : Word) : (s.push16 v).phase = s.phase := by
  simp [State.push16]
@[simp] theorem push16_run (v : Word) : (s.push16 v).run = s.run := by
  simp [State.push16]
@[simp] theorem push16_config (v : Word) : (s.push16 v).config = s.config := by
  simp [State.push16]
@[simp] theorem push16_hostQueue (v : Word) : (s.push16 v).hostQueue = s.hostQueue := by
  simp [State.push16]
@[simp] theorem push16_yields (v : Word) : (s.push16 v).yields = s.yields := by
  simp [State.push16]

/-! ### setBc -/

@[simp] theorem setBc_flags (v : Word) : (s.setBc v).flags = s.flags := by
  simp [State.setBc]
@[simp] theorem setBc_sp (v : Word) : (s.setBc v).sp = s.sp := by
  simp [State.setBc]
@[simp] theorem setBc_pc (v : Word) : (s.setBc v).pc = s.pc := by
  simp [State.setBc]
@[simp] theorem setBc_ie (v : Word) : (s.setBc v).ie = s.ie := by
  simp [State.setBc]
@[simp] theorem setBc_pending (v : Word) : (s.setBc v).pending = s.pending := by
  simp [State.setBc]
@[simp] theorem setBc_halted (v : Word) : (s.setBc v).halted = s.halted := by
  simp [State.setBc]
@[simp] theorem setBc_fault (v : Word) : (s.setBc v).fault = s.fault := by
  simp [State.setBc]
@[simp] theorem setBc_shiftRegister (v : Word) : (s.setBc v).shiftRegister = s.shiftRegister := by
  simp [State.setBc]
@[simp] theorem setBc_shiftAmount (v : Word) : (s.setBc v).shiftAmount = s.shiftAmount := by
  simp [State.setBc]
@[simp] theorem setBc_input (v : Word) : (s.setBc v).input = s.input := by
  simp [State.setBc]
@[simp] theorem setBc_soundLatch (v : Word) : (s.setBc v).soundLatch = s.soundLatch := by
  simp [State.setBc]
@[simp] theorem setBc_soundEvents (v : Word) : (s.setBc v).soundEvents = s.soundEvents := by
  simp [State.setBc]
@[simp] theorem setBc_soundOutput (v : Word) : (s.setBc v).soundOutput = s.soundOutput := by
  simp [State.setBc]
@[simp] theorem setBc_totalCycles (v : Word) : (s.setBc v).totalCycles = s.totalCycles := by
  simp [State.setBc]
@[simp] theorem setBc_halfCycles (v : Word) : (s.setBc v).halfCycles = s.halfCycles := by
  simp [State.setBc]
@[simp] theorem setBc_phase (v : Word) : (s.setBc v).phase = s.phase := by
  simp [State.setBc]
@[simp] theorem setBc_run (v : Word) : (s.setBc v).run = s.run := by
  simp [State.setBc]
@[simp] theorem setBc_mem (v : Word) : (s.setBc v).mem = s.mem := by
  simp [State.setBc]
@[simp] theorem setBc_config (v : Word) : (s.setBc v).config = s.config := by
  simp [State.setBc]
@[simp] theorem setBc_hostQueue (v : Word) : (s.setBc v).hostQueue = s.hostQueue := by
  simp [State.setBc]
@[simp] theorem setBc_yields (v : Word) : (s.setBc v).yields = s.yields := by
  simp [State.setBc]

/-! ### setDe -/

@[simp] theorem setDe_flags (v : Word) : (s.setDe v).flags = s.flags := by
  simp [State.setDe]
@[simp] theorem setDe_sp (v : Word) : (s.setDe v).sp = s.sp := by
  simp [State.setDe]
@[simp] theorem setDe_pc (v : Word) : (s.setDe v).pc = s.pc := by
  simp [State.setDe]
@[simp] theorem setDe_ie (v : Word) : (s.setDe v).ie = s.ie := by
  simp [State.setDe]
@[simp] theorem setDe_pending (v : Word) : (s.setDe v).pending = s.pending := by
  simp [State.setDe]
@[simp] theorem setDe_halted (v : Word) : (s.setDe v).halted = s.halted := by
  simp [State.setDe]
@[simp] theorem setDe_fault (v : Word) : (s.setDe v).fault = s.fault := by
  simp [State.setDe]
@[simp] theorem setDe_shiftRegister (v : Word) : (s.setDe v).shiftRegister = s.shiftRegister := by
  simp [State.setDe]
@[simp] theorem setDe_shiftAmount (v : Word) : (s.setDe v).shiftAmount = s.shiftAmount := by
  simp [State.setDe]
@[simp] theorem setDe_input (v : Word) : (s.setDe v).input = s.input := by
  simp [State.setDe]
@[simp] theorem setDe_soundLatch (v : Word) : (s.setDe v).soundLatch = s.soundLatch := by
  simp [State.setDe]
@[simp] theorem setDe_soundEvents (v : Word) : (s.setDe v).soundEvents = s.soundEvents := by
  simp [State.setDe]
@[simp] theorem setDe_soundOutput (v : Word) : (s.setDe v).soundOutput = s.soundOutput := by
  simp [State.setDe]
@[simp] theorem setDe_totalCycles (v : Word) : (s.setDe v).totalCycles = s.totalCycles := by
  simp [State.setDe]
@[simp] theorem setDe_halfCycles (v : Word) : (s.setDe v).halfCycles = s.halfCycles := by
  simp [State.setDe]
@[simp] theorem setDe_phase (v : Word) : (s.setDe v).phase = s.phase := by
  simp [State.setDe]
@[simp] theorem setDe_run (v : Word) : (s.setDe v).run = s.run := by
  simp [State.setDe]
@[simp] theorem setDe_mem (v : Word) : (s.setDe v).mem = s.mem := by
  simp [State.setDe]
@[simp] theorem setDe_config (v : Word) : (s.setDe v).config = s.config := by
  simp [State.setDe]
@[simp] theorem setDe_hostQueue (v : Word) : (s.setDe v).hostQueue = s.hostQueue := by
  simp [State.setDe]
@[simp] theorem setDe_yields (v : Word) : (s.setDe v).yields = s.yields := by
  simp [State.setDe]

/-! ### setHl -/

@[simp] theorem setHl_flags (v : Word) : (s.setHl v).flags = s.flags := by
  simp [State.setHl]
@[simp] theorem setHl_sp (v : Word) : (s.setHl v).sp = s.sp := by
  simp [State.setHl]
@[simp] theorem setHl_pc (v : Word) : (s.setHl v).pc = s.pc := by
  simp [State.setHl]
@[simp] theorem setHl_ie (v : Word) : (s.setHl v).ie = s.ie := by
  simp [State.setHl]
@[simp] theorem setHl_pending (v : Word) : (s.setHl v).pending = s.pending := by
  simp [State.setHl]
@[simp] theorem setHl_halted (v : Word) : (s.setHl v).halted = s.halted := by
  simp [State.setHl]
@[simp] theorem setHl_fault (v : Word) : (s.setHl v).fault = s.fault := by
  simp [State.setHl]
@[simp] theorem setHl_shiftRegister (v : Word) : (s.setHl v).shiftRegister = s.shiftRegister := by
  simp [State.setHl]
@[simp] theorem setHl_shiftAmount (v : Word) : (s.setHl v).shiftAmount = s.shiftAmount := by
  simp [State.setHl]
@[simp] theorem setHl_input (v : Word) : (s.setHl v).input = s.input := by
  simp [State.setHl]
@[simp] theorem setHl_soundLatch (v : Word) : (s.setHl v).soundLatch = s.soundLatch := by
  simp [State.setHl]
@[simp] theorem setHl_soundEvents (v : Word) : (s.setHl v).soundEvents = s.soundEvents := by
  simp [State.setHl]
@[simp] theorem setHl_soundOutput (v : Word) : (s.setHl v).soundOutput = s.soundOutput := by
  simp [State.setHl]
@[simp] theorem setHl_totalCycles (v : Word) : (s.setHl v).totalCycles = s.totalCycles := by
  simp [State.setHl]
@[simp] theorem setHl_halfCycles (v : Word) : (s.setHl v).halfCycles = s.halfCycles := by
  simp [State.setHl]
@[simp] theorem setHl_phase (v : Word) : (s.setHl v).phase = s.phase := by
  simp [State.setHl]
@[simp] theorem setHl_run (v : Word) : (s.setHl v).run = s.run := by
  simp [State.setHl]
@[simp] theorem setHl_mem (v : Word) : (s.setHl v).mem = s.mem := by
  simp [State.setHl]
@[simp] theorem setHl_config (v : Word) : (s.setHl v).config = s.config := by
  simp [State.setHl]
@[simp] theorem setHl_hostQueue (v : Word) : (s.setHl v).hostQueue = s.hostQueue := by
  simp [State.setHl]
@[simp] theorem setHl_yields (v : Word) : (s.setHl v).yields = s.yields := by
  simp [State.setHl]

/-! ### setOperand -/

@[simp] theorem setOperand_flags (x : Operand) (v : Byte) : (s.setOperand x v).flags = s.flags := by
  cases x <;> simp [State.setOperand]
@[simp] theorem setOperand_sp (x : Operand) (v : Byte) : (s.setOperand x v).sp = s.sp := by
  cases x <;> simp [State.setOperand]
@[simp] theorem setOperand_pc (x : Operand) (v : Byte) : (s.setOperand x v).pc = s.pc := by
  cases x <;> simp [State.setOperand]
@[simp] theorem setOperand_ie (x : Operand) (v : Byte) : (s.setOperand x v).ie = s.ie := by
  cases x <;> simp [State.setOperand]
@[simp] theorem setOperand_pending (x : Operand) (v : Byte) : (s.setOperand x v).pending = s.pending := by
  cases x <;> simp [State.setOperand]
@[simp] theorem setOperand_halted (x : Operand) (v : Byte) : (s.setOperand x v).halted = s.halted := by
  cases x <;> simp [State.setOperand]
@[simp] theorem setOperand_fault (x : Operand) (v : Byte) : (s.setOperand x v).fault = s.fault := by
  cases x <;> simp [State.setOperand]
@[simp] theorem setOperand_shiftRegister (x : Operand) (v : Byte) : (s.setOperand x v).shiftRegister = s.shiftRegister := by
  cases x <;> simp [State.setOperand]
@[simp] theorem setOperand_shiftAmount (x : Operand) (v : Byte) : (s.setOperand x v).shiftAmount = s.shiftAmount := by
  cases x <;> simp [State.setOperand]
@[simp] theorem setOperand_input (x : Operand) (v : Byte) : (s.setOperand x v).input = s.input := by
  cases x <;> simp [State.setOperand]
@[simp] theorem setOperand_soundLatch (x : Operand) (v : Byte) : (s.setOperand x v).soundLatch = s.soundLatch := by
  cases x <;> simp [State.setOperand]
@[simp] theorem setOperand_soundEvents (x : Operand) (v : Byte) : (s.setOperand x v).soundEvents = s.soundEvents := by
  cases x <;> simp [State.setOperand]
@[simp] theorem setOperand_soundOutput (x : Operand) (v : Byte) : (s.setOperand x v).soundOutput = s.soundOutput := by
  cases x <;> simp [State.setOperand]
@[simp] theorem setOperand_totalCycles (x : Operand) (v : Byte) : (s.setOperand x v).totalCycles = s.totalCycles := by
  cases x <;> simp [State.setOperand]
@[simp] theorem setOperand_halfCycles (x : Operand) (v : Byte) : (s.setOperand x v).halfCycles = s.halfCycles := by
  cases x <;> simp [State.setOperand]
@[simp] theorem setOperand_phase (x : Operand) (v : Byte) : (s.setOperand x v).phase = s.phase := by
  cases x <;> simp [State.setOperand]
@[simp] theorem setOperand_run (x : Operand) (v : Byte) : (s.setOperand x v).run = s.run := by
  cases x <;> simp [State.setOperand]
@[simp] theorem setOperand_config (x : Operand) (v : Byte) : (s.setOperand x v).config = s.config := by
  cases x <;> simp [State.setOperand]
@[simp] theorem setOperand_hostQueue (x : Operand) (v : Byte) : (s.setOperand x v).hostQueue = s.hostQueue := by
  cases x <;> simp [State.setOperand]
@[simp] theorem setOperand_yields (x : Operand) (v : Byte) : (s.setOperand x v).yields = s.yields := by
  cases x <;> simp [State.setOperand]

/-! ### setPair -/

@[simp] theorem setPair_flags (p : Pair) (v : Word) : (s.setPair p v).flags = s.flags := by
  cases p <;> simp [State.setPair]
@[simp] theorem setPair_pc (p : Pair) (v : Word) : (s.setPair p v).pc = s.pc := by
  cases p <;> simp [State.setPair]
@[simp] theorem setPair_ie (p : Pair) (v : Word) : (s.setPair p v).ie = s.ie := by
  cases p <;> simp [State.setPair]
@[simp] theorem setPair_pending (p : Pair) (v : Word) : (s.setPair p v).pending = s.pending := by
  cases p <;> simp [State.setPair]
@[simp] theorem setPair_halted (p : Pair) (v : Word) : (s.setPair p v).halted = s.halted := by
  cases p <;> simp [State.setPair]
@[simp] theorem setPair_fault (p : Pair) (v : Word) : (s.setPair p v).fault = s.fault := by
  cases p <;> simp [State.setPair]
@[simp] theorem setPair_shiftRegister (p : Pair) (v : Word) : (s.setPair p v).shiftRegister = s.shiftRegister := by
  cases p <;> simp [State.setPair]
@[simp] theorem setPair_shiftAmount (p : Pair) (v : Word) : (s.setPair p v).shiftAmount = s.shiftAmount := by
  cases p <;> simp [State.setPair]
@[simp] theorem setPair_input (p : Pair) (v : Word) : (s.setPair p v).input = s.input := by
  cases p <;> simp [State.setPair]
@[simp] theorem setPair_soundLatch (p : Pair) (v : Word) : (s.setPair p v).soundLatch = s.soundLatch := by
  cases p <;> simp [State.setPair]
@[simp] theorem setPair_soundEvents (p : Pair) (v : Word) : (s.setPair p v).soundEvents = s.soundEvents := by
  cases p <;> simp [State.setPair]
@[simp] theorem setPair_soundOutput (p : Pair) (v : Word) : (s.setPair p v).soundOutput = s.soundOutput := by
  cases p <;> simp [State.setPair]
@[simp] theorem setPair_totalCycles (p : Pair) (v : Word) : (s.setPair p v).totalCycles = s.totalCycles := by
  cases p <;> simp [State.setPair]
@[simp] theorem setPair_halfCycles (p : Pair) (v : Word) : (s.setPair p v).halfCycles = s.halfCycles := by
  cases p <;> simp [State.setPair]
@[simp] theorem setPair_phase (p : Pair) (v : Word) : (s.setPair p v).phase = s.phase := by
  cases p <;> simp [State.setPair]
@[simp] theorem setPair_run (p : Pair) (v : Word) : (s.setPair p v).run = s.run := by
  cases p <;> simp [State.setPair]
@[simp] theorem setPair_mem (p : Pair) (v : Word) : (s.setPair p v).mem = s.mem := by
  cases p <;> simp [State.setPair]
@[simp] theorem setPair_config (p : Pair) (v : Word) : (s.setPair p v).config = s.config := by
  cases p <;> simp [State.setPair]
@[simp] theorem setPair_hostQueue (p : Pair) (v : Word) : (s.setPair p v).hostQueue = s.hostQueue := by
  cases p <;> simp [State.setPair]
@[simp] theorem setPair_yields (p : Pair) (v : Word) : (s.setPair p v).yields = s.yields := by
  cases p <;> simp [State.setPair]

/-! ### What no instruction touches -/

/-- A sound-port write touches the latches and the events only. -/
theorem portOut_other {α : Type} (p v : Byte) (f : State → α) (h1 : ∀ s x, f (State.setShiftAmount s x) = f s)
    (h2 : ∀ s x, f (State.setShiftRegister s x) = f s) (h3 : ∀ s x, f (State.setSoundEvents s x) = f s)
    (h4 : ∀ s x, f (State.setSoundLatch s x) = f s) : f (s.portOut p v) = f s := by
  unfold State.portOut
  split
  · exact h1 ..
  · split
    · exact h2 ..
    · split
      · simp only [State.soundWrite, h3, h4]
      · rfl

@[simp] theorem portOut_regs (p v : Byte) : (s.portOut p v).regs = s.regs :=
  portOut_other s p v (fun t => t.regs) (by simp) (by simp) (by simp) (by simp)
@[simp] theorem portOut_flags (p v : Byte) : (s.portOut p v).flags = s.flags :=
  portOut_other s p v (fun t => t.flags) (by simp) (by simp) (by simp) (by simp)
@[simp] theorem portOut_sp (p v : Byte) : (s.portOut p v).sp = s.sp :=
  portOut_other s p v (fun t => t.sp) (by simp) (by simp) (by simp) (by simp)
@[simp] theorem portOut_pc (p v : Byte) : (s.portOut p v).pc = s.pc :=
  portOut_other s p v (fun t => t.pc) (by simp) (by simp) (by simp) (by simp)
@[simp] theorem portOut_ie (p v : Byte) : (s.portOut p v).ie = s.ie :=
  portOut_other s p v (fun t => t.ie) (by simp) (by simp) (by simp) (by simp)
@[simp] theorem portOut_pending (p v : Byte) : (s.portOut p v).pending = s.pending :=
  portOut_other s p v (fun t => t.pending) (by simp) (by simp) (by simp) (by simp)
@[simp] theorem portOut_halted (p v : Byte) : (s.portOut p v).halted = s.halted :=
  portOut_other s p v (fun t => t.halted) (by simp) (by simp) (by simp) (by simp)
@[simp] theorem portOut_fault (p v : Byte) : (s.portOut p v).fault = s.fault :=
  portOut_other s p v (fun t => t.fault) (by simp) (by simp) (by simp) (by simp)
@[simp] theorem portOut_input (p v : Byte) : (s.portOut p v).input = s.input :=
  portOut_other s p v (fun t => t.input) (by simp) (by simp) (by simp) (by simp)
@[simp] theorem portOut_totalCycles (p v : Byte) : (s.portOut p v).totalCycles = s.totalCycles :=
  portOut_other s p v (fun t => t.totalCycles) (by simp) (by simp) (by simp) (by simp)
@[simp] theorem portOut_halfCycles (p v : Byte) : (s.portOut p v).halfCycles = s.halfCycles :=
  portOut_other s p v (fun t => t.halfCycles) (by simp) (by simp) (by simp) (by simp)
@[simp] theorem portOut_phase (p v : Byte) : (s.portOut p v).phase = s.phase :=
  portOut_other s p v (fun t => t.phase) (by simp) (by simp) (by simp) (by simp)
@[simp] theorem portOut_run (p v : Byte) : (s.portOut p v).run = s.run :=
  portOut_other s p v (fun t => t.run) (by simp) (by simp) (by simp) (by simp)
@[simp] theorem portOut_mem (p v : Byte) : (s.portOut p v).mem = s.mem :=
  portOut_other s p v (fun t => t.mem) (by simp) (by simp) (by simp) (by simp)
@[simp] theorem portOut_config (p v : Byte) : (s.portOut p v).config = s.config :=
  portOut_other s p v (fun t => t.config) (by simp) (by simp) (by simp) (by simp)
@[simp] theorem portOut_soundOutput (p v : Byte) : (s.portOut p v).soundOutput = s.soundOutput :=
  portOut_other s p v (fun t => t.soundOutput) (by simp) (by simp) (by simp) (by simp)
@[simp] theorem portOut_hostQueue (p v : Byte) : (s.portOut p v).hostQueue = s.hostQueue :=
  portOut_other s p v (fun t => t.hostQueue) (by simp) (by simp) (by simp) (by simp)
@[simp] theorem portOut_yields (p v : Byte) : (s.portOut p v).yields = s.yields :=
  portOut_other s p v (fun t => t.yields) (by simp) (by simp) (by simp) (by simp)

/-- A reading of the state that does not see the registers, the flags, SP, PC or memory. -/
structure BlindToCpu {α : Type} (f : State → α) : Prop where
  reg : ∀ (s : State) (r : Reg) (v : Byte), f (s.setReg r v) = f s
  flags : ∀ (s : State) (x : Flags), f (s.setFlags x) = f s
  sp : ∀ (s : State) (v : Word), f (s.setSp v) = f s
  pc : ∀ (s : State) (v : Word), f (s.setPc v) = f s
  mem : ∀ (s : State) (a : Word) (v : Byte), f (s.write8 a v) = f s

/-- The instructions that write more than registers, flags, SP, PC and memory. -/
def writesSystem : Form → Bool
  | .ei => true
  | .di => true
  | .hlt => true
  | .outPort _ => true
  | .unsupported _ => true
  | .mov _ _ | .mvi _ _ | .lxi _ _ | .lda _ | .sta _ | .lhld _ | .shld _ | .ldax _ | .stax _ | .xchg | .alu _ _
  | .aluImm _ _ | .inr _ | .dcr _ | .inx _ | .dcx _ | .dad _ | .daa | .rlc | .rrc | .ral | .rar | .cma | .cmc | .stc
  | .jmp _ | .jcc _ _ | .call _ | .ccc _ _ | .ret | .rcc _ | .rst _ | .pchl | .push _ | .pop _ | .pushPsw | .popPsw
  | .xthl | .sphl | .inPort _ | .nop => false

/-- Every other instruction writes registers, flags, SP, PC and memory only. -/
theorem effect_blind {α : Type} {f : State → α} (h : BlindToCpu f) (x : Form) (hx : writesSystem x = false) :
    f (effect x s) = f s := by
  have hset : ∀ (s : State) (o : Operand) (v : Byte), f (s.setOperand o v) = f s := by
    intro s o v; cases o <;> simp only [State.setOperand, h.reg, h.mem]
  have hpair : ∀ (s : State) (p : Pair) (v : Word), f (s.setPair p v) = f s := by
    intro s p v
    cases p <;> simp only [State.setPair, State.setBc, State.setDe, State.setHl, h.reg, h.sp]
  have halu : ∀ (s : State) (op : AluOp) (v : Byte), f (aluEffect op v s) = f s := by
    intro s op v
    cases op <;> simp only [aluEffect, State.addTo, State.subFrom, State.andWith, State.xorWith, State.orWith,
      State.compareWith, State.setLogic, State.setAcc, h.reg, h.flags]
  cases x <;> simp only [writesSystem, Bool.true_eq_false] at hx <;>
    simp only [effect, hset, hpair, halu, State.exchangeDeHl, State.setHl, State.setDe, State.write16, State.increment,
      State.decrement, State.addToHl, State.setCarry, State.decimalAdjust, State.setAcc, State.rotate, State.callTo,
      State.push16, State.returnFromCall, State.popped, State.setPsw, State.exchangeTopHl, State.onCondition, h.reg, h.flags,
      h.sp, h.pc, h.mem] <;>
    split <;> simp only [h.sp, h.pc, h.mem]

/-- No instruction changes `pending`. -/
@[simp] theorem effect_pending (x : Form) : (effect x s).pending = s.pending := by
  by_cases h : writesSystem x = false
  · exact effect_blind (f := fun t => t.pending) s ⟨by simp, by simp, by simp, by simp, by simp⟩ x h
  · cases x <;> simp_all [writesSystem, effect, State.raiseFatal]

/-- No instruction changes `input`. -/
@[simp] theorem effect_input (x : Form) : (effect x s).input = s.input := by
  by_cases h : writesSystem x = false
  · exact effect_blind (f := fun t => t.input) s ⟨by simp, by simp, by simp, by simp, by simp⟩ x h
  · cases x <;> simp_all [writesSystem, effect, State.raiseFatal]

/-- No instruction changes `totalCycles`. -/
@[simp] theorem effect_totalCycles (x : Form) : (effect x s).totalCycles = s.totalCycles := by
  by_cases h : writesSystem x = false
  · exact effect_blind (f := fun t => t.totalCycles) s ⟨by simp, by simp, by simp, by simp, by simp⟩ x h
  · cases x <;> simp_all [writesSystem, effect, State.raiseFatal]

/-- No instruction changes `halfCycles`. -/
@[simp] theorem effect_halfCycles (x : Form) : (effect x s).halfCycles = s.halfCycles := by
  by_cases h : writesSystem x = false
  · exact effect_blind (f := fun t => t.halfCycles) s ⟨by simp, by simp, by simp, by simp, by simp⟩ x h
  · cases x <;> simp_all [writesSystem, effect, State.raiseFatal]

/-- No instruction changes `phase`. -/
@[simp] theorem effect_phase (x : Form) : (effect x s).phase = s.phase := by
  by_cases h : writesSystem x = false
  · exact effect_blind (f := fun t => t.phase) s ⟨by simp, by simp, by simp, by simp, by simp⟩ x h
  · cases x <;> simp_all [writesSystem, effect, State.raiseFatal]

/-- No instruction changes `run`. -/
@[simp] theorem effect_run (x : Form) : (effect x s).run = s.run := by
  by_cases h : writesSystem x = false
  · exact effect_blind (f := fun t => t.run) s ⟨by simp, by simp, by simp, by simp, by simp⟩ x h
  · cases x <;> simp_all [writesSystem, effect, State.raiseFatal]

/-- No instruction changes `config`. -/
@[simp] theorem effect_config (x : Form) : (effect x s).config = s.config := by
  by_cases h : writesSystem x = false
  · exact effect_blind (f := fun t => t.config) s ⟨by simp, by simp, by simp, by simp, by simp⟩ x h
  · cases x <;> simp_all [writesSystem, effect, State.raiseFatal]

/-- No instruction changes `soundOutput`. -/
@[simp] theorem effect_soundOutput (x : Form) : (effect x s).soundOutput = s.soundOutput := by
  by_cases h : writesSystem x = false
  · exact effect_blind (f := fun t => t.soundOutput) s ⟨by simp, by simp, by simp, by simp, by simp⟩ x h
  · cases x <;> simp_all [writesSystem, effect, State.raiseFatal]

/-- No instruction changes `hostQueue`. -/
@[simp] theorem effect_hostQueue (x : Form) : (effect x s).hostQueue = s.hostQueue := by
  by_cases h : writesSystem x = false
  · exact effect_blind (f := fun t => t.hostQueue) s ⟨by simp, by simp, by simp, by simp, by simp⟩ x h
  · cases x <;> simp_all [writesSystem, effect, State.raiseFatal]

/-- No instruction changes `yields`. -/
@[simp] theorem effect_yields (x : Form) : (effect x s).yields = s.yields := by
  by_cases h : writesSystem x = false
  · exact effect_blind (f := fun t => t.yields) s ⟨by simp, by simp, by simp, by simp, by simp⟩ x h
  · cases x <;> simp_all [writesSystem, effect, State.raiseFatal]

end Sys2Proof.Machine
end

