-- ==== Sys2Proof/Laws/Effects.lean ====
section
/-! SUPPORT. What the operations the instructions share leave alone: registers, flags, SP, PC and memory, for each. -/

namespace Sys2Proof.Machine

variable (s : State)

/-- A register read after a register write. -/
theorem regs_get_set (x : Regs) (r q : Reg) (v : Byte) : (x.set r v).get q = if q = r then v else x.get q := by
  cases r <;> cases q <;> rfl

theorem reg_setReg (r q : Reg) (v : Byte) : (s.setReg r v).reg q = if q = r then v else s.reg q :=
  regs_get_set s.regs r q v

/-! ### setAcc -/

@[simp] theorem setAcc_sp (r : AluResult) : (s.setAcc r).sp = s.sp := by simp [State.setAcc]
@[simp] theorem setAcc_pc (r : AluResult) : (s.setAcc r).pc = s.pc := by simp [State.setAcc]
@[simp] theorem setAcc_mem (r : AluResult) : (s.setAcc r).mem = s.mem := by simp [State.setAcc]

/-! ### setCarry -/

@[simp] theorem setCarry_regs (b : Bool) : (s.setCarry b).regs = s.regs := by simp [State.setCarry]
@[simp] theorem setCarry_sp (b : Bool) : (s.setCarry b).sp = s.sp := by simp [State.setCarry]
@[simp] theorem setCarry_pc (b : Bool) : (s.setCarry b).pc = s.pc := by simp [State.setCarry]
@[simp] theorem setCarry_mem (b : Bool) : (s.setCarry b).mem = s.mem := by simp [State.setCarry]

/-! ### setLogic -/

@[simp] theorem setLogic_sp (v : Byte) : (s.setLogic v).sp = s.sp := by simp [State.setLogic]
@[simp] theorem setLogic_pc (v : Byte) : (s.setLogic v).pc = s.pc := by simp [State.setLogic]
@[simp] theorem setLogic_mem (v : Byte) : (s.setLogic v).mem = s.mem := by simp [State.setLogic]

/-! ### addToHl -/

@[simp] theorem addToHl_sp (v : Word) : (s.addToHl v).sp = s.sp := by simp [State.addToHl]
@[simp] theorem addToHl_pc (v : Word) : (s.addToHl v).pc = s.pc := by simp [State.addToHl]
@[simp] theorem addToHl_mem (v : Word) : (s.addToHl v).mem = s.mem := by simp [State.addToHl]

/-! ### decimalAdjust -/

@[simp] theorem decimalAdjust_sp : (s.decimalAdjust).sp = s.sp := by simp [State.decimalAdjust]
@[simp] theorem decimalAdjust_pc : (s.decimalAdjust).pc = s.pc := by simp [State.decimalAdjust]
@[simp] theorem decimalAdjust_mem : (s.decimalAdjust).mem = s.mem := by simp [State.decimalAdjust]

/-! ### rotate -/

@[simp] theorem rotate_sp (r : Rotated) : (s.rotate r).sp = s.sp := by simp [State.rotate]
@[simp] theorem rotate_pc (r : Rotated) : (s.rotate r).pc = s.pc := by simp [State.rotate]
@[simp] theorem rotate_mem (r : Rotated) : (s.rotate r).mem = s.mem := by simp [State.rotate]

/-! ### increment -/

@[simp] theorem increment_sp (o : Operand) : (s.increment o).sp = s.sp := by simp [State.increment]
@[simp] theorem increment_pc (o : Operand) : (s.increment o).pc = s.pc := by simp [State.increment]

/-! ### decrement -/

@[simp] theorem decrement_sp (o : Operand) : (s.decrement o).sp = s.sp := by simp [State.decrement]
@[simp] theorem decrement_pc (o : Operand) : (s.decrement o).pc = s.pc := by simp [State.decrement]

/-! ### exchangeDeHl -/

@[simp] theorem exchangeDeHl_flags : (s.exchangeDeHl).flags = s.flags := by simp [State.exchangeDeHl]
@[simp] theorem exchangeDeHl_sp : (s.exchangeDeHl).sp = s.sp := by simp [State.exchangeDeHl]
@[simp] theorem exchangeDeHl_pc : (s.exchangeDeHl).pc = s.pc := by simp [State.exchangeDeHl]
@[simp] theorem exchangeDeHl_mem : (s.exchangeDeHl).mem = s.mem := by simp [State.exchangeDeHl]

/-! ### exchangeTopHl -/

@[simp] theorem exchangeTopHl_flags : (s.exchangeTopHl).flags = s.flags := by simp [State.exchangeTopHl]
@[simp] theorem exchangeTopHl_sp : (s.exchangeTopHl).sp = s.sp := by simp [State.exchangeTopHl]
@[simp] theorem exchangeTopHl_pc : (s.exchangeTopHl).pc = s.pc := by simp [State.exchangeTopHl]

/-! ### setPsw -/

@[simp] theorem setPsw_sp (v : Word) : (s.setPsw v).sp = s.sp := by simp [State.setPsw]
@[simp] theorem setPsw_pc (v : Word) : (s.setPsw v).pc = s.pc := by simp [State.setPsw]
@[simp] theorem setPsw_mem (v : Word) : (s.setPsw v).mem = s.mem := by simp [State.setPsw]

/-! ### popped -/

@[simp] theorem popped_regs : (s.popped).regs = s.regs := by simp [State.popped]
@[simp] theorem popped_flags : (s.popped).flags = s.flags := by simp [State.popped]
@[simp] theorem popped_pc : (s.popped).pc = s.pc := by simp [State.popped]
@[simp] theorem popped_mem : (s.popped).mem = s.mem := by simp [State.popped]

/-! ### callTo -/

@[simp] theorem callTo_regs (v : Word) : (s.callTo v).regs = s.regs := by simp [State.callTo]
@[simp] theorem callTo_flags (v : Word) : (s.callTo v).flags = s.flags := by simp [State.callTo]

/-! ### returnFromCall -/

@[simp] theorem returnFromCall_regs : (s.returnFromCall).regs = s.regs := by simp [State.returnFromCall]
@[simp] theorem returnFromCall_flags : (s.returnFromCall).flags = s.flags := by simp [State.returnFromCall]
@[simp] theorem returnFromCall_mem : (s.returnFromCall).mem = s.mem := by simp [State.returnFromCall]

/-! ### raiseFatal -/

@[simp] theorem raiseFatal_regs (e : FatalError) : (s.raiseFatal e).regs = s.regs := by simp [State.raiseFatal]
@[simp] theorem raiseFatal_flags (e : FatalError) : (s.raiseFatal e).flags = s.flags := by simp [State.raiseFatal]
@[simp] theorem raiseFatal_sp (e : FatalError) : (s.raiseFatal e).sp = s.sp := by simp [State.raiseFatal]
@[simp] theorem raiseFatal_pc (e : FatalError) : (s.raiseFatal e).pc = s.pc := by simp [State.raiseFatal]
@[simp] theorem raiseFatal_mem (e : FatalError) : (s.raiseFatal e).mem = s.mem := by simp [State.raiseFatal]

/-! ### The arithmetic and logic operations -/

@[simp] theorem aluEffect_sp (op : AluOp) (v : Byte) : (aluEffect op v s).sp = s.sp := by
  cases op <;> simp [aluEffect, State.addTo, State.subFrom, State.andWith, State.xorWith, State.orWith, State.compareWith]
@[simp] theorem aluEffect_pc (op : AluOp) (v : Byte) : (aluEffect op v s).pc = s.pc := by
  cases op <;> simp [aluEffect, State.addTo, State.subFrom, State.andWith, State.xorWith, State.orWith, State.compareWith]
@[simp] theorem aluEffect_mem (op : AluOp) (v : Byte) : (aluEffect op v s).mem = s.mem := by
  cases op <;> simp [aluEffect, State.addTo, State.subFrom, State.andWith, State.xorWith, State.orWith, State.compareWith]

/-! ### Conditions -/

/-- A conditional effect seen through any view (R95). -/
theorem onCondition_view {α : Type} (f : State → α) (cc : Cond) (t : State) :
    f (s.onCondition cc t) = if condHolds cc s.flags then f t else f s := by
  unfold State.onCondition
  split <;> rfl

/-- A conditional effect whose taken part does not change a view does not change it. -/
theorem onCondition_same {α : Type} (f : State → α) (cc : Cond) {t : State} (h : f t = f s) :
    f (s.onCondition cc t) = f s := by
  rw [onCondition_view s f cc t, h, ite_self]

/-! ### Memory -/

theorem read8_setOperand_other (o : Operand) (v : Byte) {a : Word} (h : o = .mem → a ≠ s.hl) :
    (s.setOperand o v).read8 a = s.read8 a := by
  cases o with
  | reg r => rfl
  | mem => exact read8_write8_other s v (h rfl)

theorem read8_push16_other (v : Word) {a : Word} (h1 : a ≠ s.sp - 1) (h2 : a ≠ s.sp - 2) :
    (s.push16 v).read8 a = s.read8 a := by
  rw [State.push16, read8_setSp, read8_write8_other _ _ h2, read8_write8_other _ _ h1]

theorem wf_push16 {s : State} (h : Memory.wf s.mem = true) (v : Word) : Memory.wf (s.push16 v).mem = true :=
  wf_write8 (s := s.write8 (s.sp - 1) (hiByte v)) (wf_write8 h _ _) _ _

theorem wf_setOperand {s : State} (h : Memory.wf s.mem = true) (o : Operand) (v : Byte) :
    Memory.wf (s.setOperand o v).mem = true := by
  cases o with
  | reg r => exact h
  | mem => exact wf_write8 h _ _

/-- Every instruction keeps the canonical form of memory. -/
theorem wf_effect {s : State} (h : Memory.wf s.mem = true) (x : Form) : Memory.wf (effect x s).mem = true := by
  cases x
  case mov => exact wf_setOperand h _ _
  case mvi => exact wf_setOperand h _ _
  case inr => exact wf_setOperand h _ _
  case dcr => exact wf_setOperand h _ _
  case sta => exact wf_write8 h _ _
  case stax => exact wf_write8 h _ _
  case shld => exact wf_write8 (wf_write8 h _ _) _ _
  case push => exact wf_push16 h _
  case pushPsw => exact wf_push16 h _
  case call => exact wf_push16 h _
  case rst => exact wf_push16 h _
  case ccc cc a =>
    simp only [effect, onCondition_view s (fun t => Memory.wf t.mem)]
    split
    · exact wf_push16 h _
    · exact h
  case jcc cc a =>
    rw [effect, onCondition_same s State.mem cc (setPc_mem s a)]
    exact h
  case rcc cc =>
    rw [effect, onCondition_same s State.mem cc (returnFromCall_mem s)]
    exact h
  case xthl =>
    simp only [effect, State.exchangeTopHl, setHl_mem]
    exact wf_write8 (wf_write8 h _ _) _ _
  all_goals simpa [effect] using h

/-! ### A byte write and a field write commute -/

theorem write8_setSp (x a : Word) (v : Byte) : (s.setSp x).write8 a v = (s.write8 a v).setSp x := by
  cases h : dropsWrite s.config a <;> simp only [State.write8, setSp_config, h, if_true, Bool.false_eq_true, if_false]
  rfl
theorem write8_setPc (x a : Word) (v : Byte) : (s.setPc x).write8 a v = (s.write8 a v).setPc x := by
  cases h : dropsWrite s.config a <;> simp only [State.write8, setPc_config, h, if_true, Bool.false_eq_true, if_false]
  rfl
theorem write8_setIe (b : Bool) (a : Word) (v : Byte) : (s.setIe b).write8 a v = (s.write8 a v).setIe b := by
  cases h : dropsWrite s.config a <;> simp only [State.write8, setIe_config, h, if_true, Bool.false_eq_true, if_false]
  rfl
theorem write8_setPending (x : Option (BitVec 3)) (a : Word) (v : Byte) : (s.setPending x).write8 a v = (s.write8 a v).setPending x := by
  cases h : dropsWrite s.config a <;> simp only [State.write8, setPending_config, h, if_true, Bool.false_eq_true, if_false]
  rfl
theorem write8_setHalted (b : Bool) (a : Word) (v : Byte) : (s.setHalted b).write8 a v = (s.write8 a v).setHalted b := by
  cases h : dropsWrite s.config a <;> simp only [State.write8, setHalted_config, h, if_true, Bool.false_eq_true, if_false]
  rfl

/-! ### Port maps -/

theorem portWf_set {m : Cells} (h : m.portWf = true) (p v : Byte) : (Cells.set m p.toNat v).portWf = true :=
  wf_set 256 m p.toNat v p.isLt h

theorem portWf_portOut {s : State} (h : s.soundLatch.portWf = true) (p v : Byte) :
    (s.portOut p v).soundLatch.portWf = true := by
  unfold State.portOut
  split
  · exact h
  · split
    · exact h
    · split
      · exact portWf_set h _ _
      · exact h

end Sys2Proof.Machine
end

