-- ==== Sys2Proof/Laws/PerInstr.lean ====
section
/-! SUPPORT. Per-instruction lemmas of the family RoundTrip: what is encoded decodes to the same instruction, with any bytes after it. -/

namespace Sys2Proof.Laws

/-- Decoding the encoding of a well-formed instruction gives it back and leaves the bytes after it. -/
def RoundTrip.Statement (i : Instr) : Prop :=
  i.wellFormed = true → ∀ rest : List Byte, decode (encode i ++ rest) = .ok (i, rest)

theorem roundTrip_one {i : Instr} (op : Byte) (he : encode i = [op]) (hl : encodedLength op = 1)
    (hd : ∀ b2 b3, decodeBytes op b2 b3 = i) : RoundTrip.Statement i := by
  intro _ rest
  rw [he, List.singleton_append, decode_one op rest hl, hd]

theorem roundTrip_two {i : Instr} (op b2 : Byte) (he : encode i = [op, b2]) (hl : encodedLength op = 2)
    (hd : ∀ b3, decodeBytes op b2 b3 = i) : RoundTrip.Statement i := by
  intro _ rest
  rw [he, List.cons_append, List.singleton_append, decode_two op b2 rest hl, hd]

theorem roundTrip_three {i : Instr} (op : Byte) (w : Word) (he : encode i = [op, loByte w, hiByte w])
    (hl : encodedLength op = 3) (hd : decodeBytes op (loByte w) (hiByte w) = i) : RoundTrip.Statement i := by
  intro _ rest
  rw [he, List.cons_append, List.cons_append, List.singleton_append, decode_three op _ _ rest hl, hd]

/-- The twelve bytes without an instruction. -/
theorem RoundTrip.unsupported (op : Byte) : RoundTrip.Statement (.unsupported op) := by
  intro h
  have hm : op ∈ unsupportedBytes := by simpa [Instr.wellFormed] using h
  revert h
  simp only [unsupportedBytes, List.mem_cons, List.not_mem_nil, or_false] at hm
  rcases hm with h | h | h | h | h | h | h | h | h | h | h | h <;> subst h <;>
    exact roundTrip_one _ rfl rfl (fun _ _ => rfl)

theorem RoundTrip.nop : Statement .nop := roundTrip_one 0x00 rfl rfl (fun _ _ => rfl)

theorem RoundTrip.lxiB (d16 : Word) : Statement (.lxiB d16) :=
  roundTrip_three 0x01 d16 rfl rfl (congrArg Instr.lxiB (word16_hiByte_loByte d16))

theorem RoundTrip.staxB : Statement .staxB := roundTrip_one 0x02 rfl rfl (fun _ _ => rfl)

theorem RoundTrip.inxB : Statement .inxB := roundTrip_one 0x03 rfl rfl (fun _ _ => rfl)

theorem RoundTrip.inrB : Statement .inrB := roundTrip_one 0x04 rfl rfl (fun _ _ => rfl)

theorem RoundTrip.dcrB : Statement .dcrB := roundTrip_one 0x05 rfl rfl (fun _ _ => rfl)

theorem RoundTrip.mviB (d8 : Byte) : Statement (.mviB d8) := roundTrip_two 0x06 d8 rfl rfl (fun _ => rfl)

theorem RoundTrip.rlc : Statement .rlc := roundTrip_one 0x07 rfl rfl (fun _ _ => rfl)

theorem RoundTrip.dadB : Statement .dadB := roundTrip_one 0x09 rfl rfl (fun _ _ => rfl)

theorem RoundTrip.ldaxB : Statement .ldaxB := roundTrip_one 0x0A rfl rfl (fun _ _ => rfl)

theorem RoundTrip.dcxB : Statement .dcxB := roundTrip_one 0x0B rfl rfl (fun _ _ => rfl)

theorem RoundTrip.inrC : Statement .inrC := roundTrip_one 0x0C rfl rfl (fun _ _ => rfl)

theorem RoundTrip.dcrC : Statement .dcrC := roundTrip_one 0x0D rfl rfl (fun _ _ => rfl)

theorem RoundTrip.mviC (d8 : Byte) : Statement (.mviC d8) := roundTrip_two 0x0E d8 rfl rfl (fun _ => rfl)

theorem RoundTrip.rrc : Statement .rrc := roundTrip_one 0x0F rfl rfl (fun _ _ => rfl)

theorem RoundTrip.lxiD (d16 : Word) : Statement (.lxiD d16) :=
  roundTrip_three 0x11 d16 rfl rfl (congrArg Instr.lxiD (word16_hiByte_loByte d16))

theorem RoundTrip.staxD : Statement .staxD := roundTrip_one 0x12 rfl rfl (fun _ _ => rfl)

theorem RoundTrip.inxD : Statement .inxD := roundTrip_one 0x13 rfl rfl (fun _ _ => rfl)

theorem RoundTrip.inrD : Statement .inrD := roundTrip_one 0x14 rfl rfl (fun _ _ => rfl)

theorem RoundTrip.dcrD : Statement .dcrD := roundTrip_one 0x15 rfl rfl (fun _ _ => rfl)

theorem RoundTrip.mviD (d8 : Byte) : Statement (.mviD d8) := roundTrip_two 0x16 d8 rfl rfl (fun _ => rfl)

theorem RoundTrip.ral : Statement .ral := roundTrip_one 0x17 rfl rfl (fun _ _ => rfl)

theorem RoundTrip.dadD : Statement .dadD := roundTrip_one 0x19 rfl rfl (fun _ _ => rfl)

theorem RoundTrip.ldaxD : Statement .ldaxD := roundTrip_one 0x1A rfl rfl (fun _ _ => rfl)

theorem RoundTrip.dcxD : Statement .dcxD := roundTrip_one 0x1B rfl rfl (fun _ _ => rfl)

theorem RoundTrip.inrE : Statement .inrE := roundTrip_one 0x1C rfl rfl (fun _ _ => rfl)

theorem RoundTrip.dcrE : Statement .dcrE := roundTrip_one 0x1D rfl rfl (fun _ _ => rfl)

theorem RoundTrip.mviE (d8 : Byte) : Statement (.mviE d8) := roundTrip_two 0x1E d8 rfl rfl (fun _ => rfl)

theorem RoundTrip.rar : Statement .rar := roundTrip_one 0x1F rfl rfl (fun _ _ => rfl)

theorem RoundTrip.lxiH (d16 : Word) : Statement (.lxiH d16) :=
  roundTrip_three 0x21 d16 rfl rfl (congrArg Instr.lxiH (word16_hiByte_loByte d16))

theorem RoundTrip.shld (a16 : Word) : Statement (.shld a16) :=
  roundTrip_three 0x22 a16 rfl rfl (congrArg Instr.shld (word16_hiByte_loByte a16))

theorem RoundTrip.inxH : Statement .inxH := roundTrip_one 0x23 rfl rfl (fun _ _ => rfl)

theorem RoundTrip.inrH : Statement .inrH := roundTrip_one 0x24 rfl rfl (fun _ _ => rfl)

theorem RoundTrip.dcrH : Statement .dcrH := roundTrip_one 0x25 rfl rfl (fun _ _ => rfl)

theorem RoundTrip.mviH (d8 : Byte) : Statement (.mviH d8) := roundTrip_two 0x26 d8 rfl rfl (fun _ => rfl)

theorem RoundTrip.daa : Statement .daa := roundTrip_one 0x27 rfl rfl (fun _ _ => rfl)

theorem RoundTrip.dadH : Statement .dadH := roundTrip_one 0x29 rfl rfl (fun _ _ => rfl)

theorem RoundTrip.lhld (a16 : Word) : Statement (.lhld a16) :=
  roundTrip_three 0x2A a16 rfl rfl (congrArg Instr.lhld (word16_hiByte_loByte a16))

theorem RoundTrip.dcxH : Statement .dcxH := roundTrip_one 0x2B rfl rfl (fun _ _ => rfl)

theorem RoundTrip.inrL : Statement .inrL := roundTrip_one 0x2C rfl rfl (fun _ _ => rfl)

theorem RoundTrip.dcrL : Statement .dcrL := roundTrip_one 0x2D rfl rfl (fun _ _ => rfl)

theorem RoundTrip.mviL (d8 : Byte) : Statement (.mviL d8) := roundTrip_two 0x2E d8 rfl rfl (fun _ => rfl)

theorem RoundTrip.cma : Statement .cma := roundTrip_one 0x2F rfl rfl (fun _ _ => rfl)

theorem RoundTrip.lxiSp (d16 : Word) : Statement (.lxiSp d16) :=
  roundTrip_three 0x31 d16 rfl rfl (congrArg Instr.lxiSp (word16_hiByte_loByte d16))

theorem RoundTrip.sta (a16 : Word) : Statement (.sta a16) :=
  roundTrip_three 0x32 a16 rfl rfl (congrArg Instr.sta (word16_hiByte_loByte a16))

theorem RoundTrip.inxSp : Statement .inxSp := roundTrip_one 0x33 rfl rfl (fun _ _ => rfl)

theorem RoundTrip.inrM : Statement .inrM := roundTrip_one 0x34 rfl rfl (fun _ _ => rfl)

theorem RoundTrip.dcrM : Statement .dcrM := roundTrip_one 0x35 rfl rfl (fun _ _ => rfl)

theorem RoundTrip.mviM (d8 : Byte) : Statement (.mviM d8) := roundTrip_two 0x36 d8 rfl rfl (fun _ => rfl)

theorem RoundTrip.stc : Statement .stc := roundTrip_one 0x37 rfl rfl (fun _ _ => rfl)

theorem RoundTrip.dadSp : Statement .dadSp := roundTrip_one 0x39 rfl rfl (fun _ _ => rfl)

theorem RoundTrip.lda (a16 : Word) : Statement (.lda a16) :=
  roundTrip_three 0x3A a16 rfl rfl (congrArg Instr.lda (word16_hiByte_loByte a16))

theorem RoundTrip.dcxSp : Statement .dcxSp := roundTrip_one 0x3B rfl rfl (fun _ _ => rfl)

theorem RoundTrip.inrA : Statement .inrA := roundTrip_one 0x3C rfl rfl (fun _ _ => rfl)

theorem RoundTrip.dcrA : Statement .dcrA := roundTrip_one 0x3D rfl rfl (fun _ _ => rfl)

theorem RoundTrip.mviA (d8 : Byte) : Statement (.mviA d8) := roundTrip_two 0x3E d8 rfl rfl (fun _ => rfl)

theorem RoundTrip.cmc : Statement .cmc := roundTrip_one 0x3F rfl rfl (fun _ _ => rfl)

theorem RoundTrip.movBB : Statement .movBB := roundTrip_one 0x40 rfl rfl (fun _ _ => rfl)

theorem RoundTrip.movBC : Statement .movBC := roundTrip_one 0x41 rfl rfl (fun _ _ => rfl)

theorem RoundTrip.movBD : Statement .movBD := roundTrip_one 0x42 rfl rfl (fun _ _ => rfl)

theorem RoundTrip.movBE : Statement .movBE := roundTrip_one 0x43 rfl rfl (fun _ _ => rfl)

theorem RoundTrip.movBH : Statement .movBH := roundTrip_one 0x44 rfl rfl (fun _ _ => rfl)

theorem RoundTrip.movBL : Statement .movBL := roundTrip_one 0x45 rfl rfl (fun _ _ => rfl)

theorem RoundTrip.movBM : Statement .movBM := roundTrip_one 0x46 rfl rfl (fun _ _ => rfl)

theorem RoundTrip.movBA : Statement .movBA := roundTrip_one 0x47 rfl rfl (fun _ _ => rfl)

theorem RoundTrip.movCB : Statement .movCB := roundTrip_one 0x48 rfl rfl (fun _ _ => rfl)

theorem RoundTrip.movCC : Statement .movCC := roundTrip_one 0x49 rfl rfl (fun _ _ => rfl)

theorem RoundTrip.movCD : Statement .movCD := roundTrip_one 0x4A rfl rfl (fun _ _ => rfl)

theorem RoundTrip.movCE : Statement .movCE := roundTrip_one 0x4B rfl rfl (fun _ _ => rfl)

theorem RoundTrip.movCH : Statement .movCH := roundTrip_one 0x4C rfl rfl (fun _ _ => rfl)

theorem RoundTrip.movCL : Statement .movCL := roundTrip_one 0x4D rfl rfl (fun _ _ => rfl)

theorem RoundTrip.movCM : Statement .movCM := roundTrip_one 0x4E rfl rfl (fun _ _ => rfl)

theorem RoundTrip.movCA : Statement .movCA := roundTrip_one 0x4F rfl rfl (fun _ _ => rfl)

theorem RoundTrip.movDB : Statement .movDB := roundTrip_one 0x50 rfl rfl (fun _ _ => rfl)

theorem RoundTrip.movDC : Statement .movDC := roundTrip_one 0x51 rfl rfl (fun _ _ => rfl)

theorem RoundTrip.movDD : Statement .movDD := roundTrip_one 0x52 rfl rfl (fun _ _ => rfl)

theorem RoundTrip.movDE : Statement .movDE := roundTrip_one 0x53 rfl rfl (fun _ _ => rfl)

theorem RoundTrip.movDH : Statement .movDH := roundTrip_one 0x54 rfl rfl (fun _ _ => rfl)

theorem RoundTrip.movDL : Statement .movDL := roundTrip_one 0x55 rfl rfl (fun _ _ => rfl)

theorem RoundTrip.movDM : Statement .movDM := roundTrip_one 0x56 rfl rfl (fun _ _ => rfl)

theorem RoundTrip.movDA : Statement .movDA := roundTrip_one 0x57 rfl rfl (fun _ _ => rfl)

theorem RoundTrip.movEB : Statement .movEB := roundTrip_one 0x58 rfl rfl (fun _ _ => rfl)

theorem RoundTrip.movEC : Statement .movEC := roundTrip_one 0x59 rfl rfl (fun _ _ => rfl)

theorem RoundTrip.movED : Statement .movED := roundTrip_one 0x5A rfl rfl (fun _ _ => rfl)

theorem RoundTrip.movEE : Statement .movEE := roundTrip_one 0x5B rfl rfl (fun _ _ => rfl)

theorem RoundTrip.movEH : Statement .movEH := roundTrip_one 0x5C rfl rfl (fun _ _ => rfl)

theorem RoundTrip.movEL : Statement .movEL := roundTrip_one 0x5D rfl rfl (fun _ _ => rfl)

theorem RoundTrip.movEM : Statement .movEM := roundTrip_one 0x5E rfl rfl (fun _ _ => rfl)

theorem RoundTrip.movEA : Statement .movEA := roundTrip_one 0x5F rfl rfl (fun _ _ => rfl)

theorem RoundTrip.movHB : Statement .movHB := roundTrip_one 0x60 rfl rfl (fun _ _ => rfl)

theorem RoundTrip.movHC : Statement .movHC := roundTrip_one 0x61 rfl rfl (fun _ _ => rfl)

theorem RoundTrip.movHD : Statement .movHD := roundTrip_one 0x62 rfl rfl (fun _ _ => rfl)

theorem RoundTrip.movHE : Statement .movHE := roundTrip_one 0x63 rfl rfl (fun _ _ => rfl)

theorem RoundTrip.movHH : Statement .movHH := roundTrip_one 0x64 rfl rfl (fun _ _ => rfl)

theorem RoundTrip.movHL : Statement .movHL := roundTrip_one 0x65 rfl rfl (fun _ _ => rfl)

theorem RoundTrip.movHM : Statement .movHM := roundTrip_one 0x66 rfl rfl (fun _ _ => rfl)

theorem RoundTrip.movHA : Statement .movHA := roundTrip_one 0x67 rfl rfl (fun _ _ => rfl)

theorem RoundTrip.movLB : Statement .movLB := roundTrip_one 0x68 rfl rfl (fun _ _ => rfl)

theorem RoundTrip.movLC : Statement .movLC := roundTrip_one 0x69 rfl rfl (fun _ _ => rfl)

theorem RoundTrip.movLD : Statement .movLD := roundTrip_one 0x6A rfl rfl (fun _ _ => rfl)

theorem RoundTrip.movLE : Statement .movLE := roundTrip_one 0x6B rfl rfl (fun _ _ => rfl)

theorem RoundTrip.movLH : Statement .movLH := roundTrip_one 0x6C rfl rfl (fun _ _ => rfl)

theorem RoundTrip.movLL : Statement .movLL := roundTrip_one 0x6D rfl rfl (fun _ _ => rfl)

theorem RoundTrip.movLM : Statement .movLM := roundTrip_one 0x6E rfl rfl (fun _ _ => rfl)

theorem RoundTrip.movLA : Statement .movLA := roundTrip_one 0x6F rfl rfl (fun _ _ => rfl)

theorem RoundTrip.movMB : Statement .movMB := roundTrip_one 0x70 rfl rfl (fun _ _ => rfl)

theorem RoundTrip.movMC : Statement .movMC := roundTrip_one 0x71 rfl rfl (fun _ _ => rfl)

theorem RoundTrip.movMD : Statement .movMD := roundTrip_one 0x72 rfl rfl (fun _ _ => rfl)

theorem RoundTrip.movME : Statement .movME := roundTrip_one 0x73 rfl rfl (fun _ _ => rfl)

theorem RoundTrip.movMH : Statement .movMH := roundTrip_one 0x74 rfl rfl (fun _ _ => rfl)

theorem RoundTrip.movML : Statement .movML := roundTrip_one 0x75 rfl rfl (fun _ _ => rfl)

theorem RoundTrip.hlt : Statement .hlt := roundTrip_one 0x76 rfl rfl (fun _ _ => rfl)

theorem RoundTrip.movMA : Statement .movMA := roundTrip_one 0x77 rfl rfl (fun _ _ => rfl)

theorem RoundTrip.movAB : Statement .movAB := roundTrip_one 0x78 rfl rfl (fun _ _ => rfl)

theorem RoundTrip.movAC : Statement .movAC := roundTrip_one 0x79 rfl rfl (fun _ _ => rfl)

theorem RoundTrip.movAD : Statement .movAD := roundTrip_one 0x7A rfl rfl (fun _ _ => rfl)

theorem RoundTrip.movAE : Statement .movAE := roundTrip_one 0x7B rfl rfl (fun _ _ => rfl)

theorem RoundTrip.movAH : Statement .movAH := roundTrip_one 0x7C rfl rfl (fun _ _ => rfl)

theorem RoundTrip.movAL : Statement .movAL := roundTrip_one 0x7D rfl rfl (fun _ _ => rfl)

theorem RoundTrip.movAM : Statement .movAM := roundTrip_one 0x7E rfl rfl (fun _ _ => rfl)

theorem RoundTrip.movAA : Statement .movAA := roundTrip_one 0x7F rfl rfl (fun _ _ => rfl)

theorem RoundTrip.addB : Statement .addB := roundTrip_one 0x80 rfl rfl (fun _ _ => rfl)

theorem RoundTrip.addC : Statement .addC := roundTrip_one 0x81 rfl rfl (fun _ _ => rfl)

theorem RoundTrip.addD : Statement .addD := roundTrip_one 0x82 rfl rfl (fun _ _ => rfl)

theorem RoundTrip.addE : Statement .addE := roundTrip_one 0x83 rfl rfl (fun _ _ => rfl)

theorem RoundTrip.addH : Statement .addH := roundTrip_one 0x84 rfl rfl (fun _ _ => rfl)

theorem RoundTrip.addL : Statement .addL := roundTrip_one 0x85 rfl rfl (fun _ _ => rfl)

theorem RoundTrip.addM : Statement .addM := roundTrip_one 0x86 rfl rfl (fun _ _ => rfl)

theorem RoundTrip.addA : Statement .addA := roundTrip_one 0x87 rfl rfl (fun _ _ => rfl)

theorem RoundTrip.adcB : Statement .adcB := roundTrip_one 0x88 rfl rfl (fun _ _ => rfl)

theorem RoundTrip.adcC : Statement .adcC := roundTrip_one 0x89 rfl rfl (fun _ _ => rfl)

theorem RoundTrip.adcD : Statement .adcD := roundTrip_one 0x8A rfl rfl (fun _ _ => rfl)

theorem RoundTrip.adcE : Statement .adcE := roundTrip_one 0x8B rfl rfl (fun _ _ => rfl)

theorem RoundTrip.adcH : Statement .adcH := roundTrip_one 0x8C rfl rfl (fun _ _ => rfl)

theorem RoundTrip.adcL : Statement .adcL := roundTrip_one 0x8D rfl rfl (fun _ _ => rfl)

theorem RoundTrip.adcM : Statement .adcM := roundTrip_one 0x8E rfl rfl (fun _ _ => rfl)

theorem RoundTrip.adcA : Statement .adcA := roundTrip_one 0x8F rfl rfl (fun _ _ => rfl)

theorem RoundTrip.subB : Statement .subB := roundTrip_one 0x90 rfl rfl (fun _ _ => rfl)

theorem RoundTrip.subC : Statement .subC := roundTrip_one 0x91 rfl rfl (fun _ _ => rfl)

theorem RoundTrip.subD : Statement .subD := roundTrip_one 0x92 rfl rfl (fun _ _ => rfl)

theorem RoundTrip.subE : Statement .subE := roundTrip_one 0x93 rfl rfl (fun _ _ => rfl)

theorem RoundTrip.subH : Statement .subH := roundTrip_one 0x94 rfl rfl (fun _ _ => rfl)

theorem RoundTrip.subL : Statement .subL := roundTrip_one 0x95 rfl rfl (fun _ _ => rfl)

theorem RoundTrip.subM : Statement .subM := roundTrip_one 0x96 rfl rfl (fun _ _ => rfl)

theorem RoundTrip.subA : Statement .subA := roundTrip_one 0x97 rfl rfl (fun _ _ => rfl)

theorem RoundTrip.sbbB : Statement .sbbB := roundTrip_one 0x98 rfl rfl (fun _ _ => rfl)

theorem RoundTrip.sbbC : Statement .sbbC := roundTrip_one 0x99 rfl rfl (fun _ _ => rfl)

theorem RoundTrip.sbbD : Statement .sbbD := roundTrip_one 0x9A rfl rfl (fun _ _ => rfl)

theorem RoundTrip.sbbE : Statement .sbbE := roundTrip_one 0x9B rfl rfl (fun _ _ => rfl)

theorem RoundTrip.sbbH : Statement .sbbH := roundTrip_one 0x9C rfl rfl (fun _ _ => rfl)

theorem RoundTrip.sbbL : Statement .sbbL := roundTrip_one 0x9D rfl rfl (fun _ _ => rfl)

theorem RoundTrip.sbbM : Statement .sbbM := roundTrip_one 0x9E rfl rfl (fun _ _ => rfl)

theorem RoundTrip.sbbA : Statement .sbbA := roundTrip_one 0x9F rfl rfl (fun _ _ => rfl)

theorem RoundTrip.anaB : Statement .anaB := roundTrip_one 0xA0 rfl rfl (fun _ _ => rfl)

theorem RoundTrip.anaC : Statement .anaC := roundTrip_one 0xA1 rfl rfl (fun _ _ => rfl)

theorem RoundTrip.anaD : Statement .anaD := roundTrip_one 0xA2 rfl rfl (fun _ _ => rfl)

theorem RoundTrip.anaE : Statement .anaE := roundTrip_one 0xA3 rfl rfl (fun _ _ => rfl)

theorem RoundTrip.anaH : Statement .anaH := roundTrip_one 0xA4 rfl rfl (fun _ _ => rfl)

theorem RoundTrip.anaL : Statement .anaL := roundTrip_one 0xA5 rfl rfl (fun _ _ => rfl)

theorem RoundTrip.anaM : Statement .anaM := roundTrip_one 0xA6 rfl rfl (fun _ _ => rfl)

theorem RoundTrip.anaA : Statement .anaA := roundTrip_one 0xA7 rfl rfl (fun _ _ => rfl)

theorem RoundTrip.xraB : Statement .xraB := roundTrip_one 0xA8 rfl rfl (fun _ _ => rfl)

theorem RoundTrip.xraC : Statement .xraC := roundTrip_one 0xA9 rfl rfl (fun _ _ => rfl)

theorem RoundTrip.xraD : Statement .xraD := roundTrip_one 0xAA rfl rfl (fun _ _ => rfl)

theorem RoundTrip.xraE : Statement .xraE := roundTrip_one 0xAB rfl rfl (fun _ _ => rfl)

theorem RoundTrip.xraH : Statement .xraH := roundTrip_one 0xAC rfl rfl (fun _ _ => rfl)

theorem RoundTrip.xraL : Statement .xraL := roundTrip_one 0xAD rfl rfl (fun _ _ => rfl)

theorem RoundTrip.xraM : Statement .xraM := roundTrip_one 0xAE rfl rfl (fun _ _ => rfl)

theorem RoundTrip.xraA : Statement .xraA := roundTrip_one 0xAF rfl rfl (fun _ _ => rfl)

theorem RoundTrip.oraB : Statement .oraB := roundTrip_one 0xB0 rfl rfl (fun _ _ => rfl)

theorem RoundTrip.oraC : Statement .oraC := roundTrip_one 0xB1 rfl rfl (fun _ _ => rfl)

theorem RoundTrip.oraD : Statement .oraD := roundTrip_one 0xB2 rfl rfl (fun _ _ => rfl)

theorem RoundTrip.oraE : Statement .oraE := roundTrip_one 0xB3 rfl rfl (fun _ _ => rfl)

theorem RoundTrip.oraH : Statement .oraH := roundTrip_one 0xB4 rfl rfl (fun _ _ => rfl)

theorem RoundTrip.oraL : Statement .oraL := roundTrip_one 0xB5 rfl rfl (fun _ _ => rfl)

theorem RoundTrip.oraM : Statement .oraM := roundTrip_one 0xB6 rfl rfl (fun _ _ => rfl)

theorem RoundTrip.oraA : Statement .oraA := roundTrip_one 0xB7 rfl rfl (fun _ _ => rfl)

theorem RoundTrip.cmpB : Statement .cmpB := roundTrip_one 0xB8 rfl rfl (fun _ _ => rfl)

theorem RoundTrip.cmpC : Statement .cmpC := roundTrip_one 0xB9 rfl rfl (fun _ _ => rfl)

theorem RoundTrip.cmpD : Statement .cmpD := roundTrip_one 0xBA rfl rfl (fun _ _ => rfl)

theorem RoundTrip.cmpE : Statement .cmpE := roundTrip_one 0xBB rfl rfl (fun _ _ => rfl)

theorem RoundTrip.cmpH : Statement .cmpH := roundTrip_one 0xBC rfl rfl (fun _ _ => rfl)

theorem RoundTrip.cmpL : Statement .cmpL := roundTrip_one 0xBD rfl rfl (fun _ _ => rfl)

theorem RoundTrip.cmpM : Statement .cmpM := roundTrip_one 0xBE rfl rfl (fun _ _ => rfl)

theorem RoundTrip.cmpA : Statement .cmpA := roundTrip_one 0xBF rfl rfl (fun _ _ => rfl)

theorem RoundTrip.rnz : Statement .rnz := roundTrip_one 0xC0 rfl rfl (fun _ _ => rfl)

theorem RoundTrip.popB : Statement .popB := roundTrip_one 0xC1 rfl rfl (fun _ _ => rfl)

theorem RoundTrip.jnz (a16 : Word) : Statement (.jnz a16) :=
  roundTrip_three 0xC2 a16 rfl rfl (congrArg Instr.jnz (word16_hiByte_loByte a16))

theorem RoundTrip.jmp (a16 : Word) : Statement (.jmp a16) :=
  roundTrip_three 0xC3 a16 rfl rfl (congrArg Instr.jmp (word16_hiByte_loByte a16))

theorem RoundTrip.cnz (a16 : Word) : Statement (.cnz a16) :=
  roundTrip_three 0xC4 a16 rfl rfl (congrArg Instr.cnz (word16_hiByte_loByte a16))

theorem RoundTrip.pushB : Statement .pushB := roundTrip_one 0xC5 rfl rfl (fun _ _ => rfl)

theorem RoundTrip.adi (d8 : Byte) : Statement (.adi d8) := roundTrip_two 0xC6 d8 rfl rfl (fun _ => rfl)

theorem RoundTrip.rst0 : Statement .rst0 := roundTrip_one 0xC7 rfl rfl (fun _ _ => rfl)

theorem RoundTrip.rz : Statement .rz := roundTrip_one 0xC8 rfl rfl (fun _ _ => rfl)

theorem RoundTrip.ret : Statement .ret := roundTrip_one 0xC9 rfl rfl (fun _ _ => rfl)

theorem RoundTrip.jz (a16 : Word) : Statement (.jz a16) :=
  roundTrip_three 0xCA a16 rfl rfl (congrArg Instr.jz (word16_hiByte_loByte a16))

theorem RoundTrip.cz (a16 : Word) : Statement (.cz a16) :=
  roundTrip_three 0xCC a16 rfl rfl (congrArg Instr.cz (word16_hiByte_loByte a16))

theorem RoundTrip.call (a16 : Word) : Statement (.call a16) :=
  roundTrip_three 0xCD a16 rfl rfl (congrArg Instr.call (word16_hiByte_loByte a16))

theorem RoundTrip.aci (d8 : Byte) : Statement (.aci d8) := roundTrip_two 0xCE d8 rfl rfl (fun _ => rfl)

theorem RoundTrip.rst1 : Statement .rst1 := roundTrip_one 0xCF rfl rfl (fun _ _ => rfl)

theorem RoundTrip.rnc : Statement .rnc := roundTrip_one 0xD0 rfl rfl (fun _ _ => rfl)

theorem RoundTrip.popD : Statement .popD := roundTrip_one 0xD1 rfl rfl (fun _ _ => rfl)

theorem RoundTrip.jnc (a16 : Word) : Statement (.jnc a16) :=
  roundTrip_three 0xD2 a16 rfl rfl (congrArg Instr.jnc (word16_hiByte_loByte a16))

theorem RoundTrip.outPort (p8 : Byte) : Statement (.outPort p8) := roundTrip_two 0xD3 p8 rfl rfl (fun _ => rfl)

theorem RoundTrip.cnc (a16 : Word) : Statement (.cnc a16) :=
  roundTrip_three 0xD4 a16 rfl rfl (congrArg Instr.cnc (word16_hiByte_loByte a16))

theorem RoundTrip.pushD : Statement .pushD := roundTrip_one 0xD5 rfl rfl (fun _ _ => rfl)

theorem RoundTrip.sui (d8 : Byte) : Statement (.sui d8) := roundTrip_two 0xD6 d8 rfl rfl (fun _ => rfl)

theorem RoundTrip.rst2 : Statement .rst2 := roundTrip_one 0xD7 rfl rfl (fun _ _ => rfl)

theorem RoundTrip.rc : Statement .rc := roundTrip_one 0xD8 rfl rfl (fun _ _ => rfl)

theorem RoundTrip.jc (a16 : Word) : Statement (.jc a16) :=
  roundTrip_three 0xDA a16 rfl rfl (congrArg Instr.jc (word16_hiByte_loByte a16))

theorem RoundTrip.inPort (p8 : Byte) : Statement (.inPort p8) := roundTrip_two 0xDB p8 rfl rfl (fun _ => rfl)

theorem RoundTrip.cc (a16 : Word) : Statement (.cc a16) :=
  roundTrip_three 0xDC a16 rfl rfl (congrArg Instr.cc (word16_hiByte_loByte a16))

theorem RoundTrip.sbi (d8 : Byte) : Statement (.sbi d8) := roundTrip_two 0xDE d8 rfl rfl (fun _ => rfl)

theorem RoundTrip.rst3 : Statement .rst3 := roundTrip_one 0xDF rfl rfl (fun _ _ => rfl)

theorem RoundTrip.rpo : Statement .rpo := roundTrip_one 0xE0 rfl rfl (fun _ _ => rfl)

theorem RoundTrip.popH : Statement .popH := roundTrip_one 0xE1 rfl rfl (fun _ _ => rfl)

theorem RoundTrip.jpo (a16 : Word) : Statement (.jpo a16) :=
  roundTrip_three 0xE2 a16 rfl rfl (congrArg Instr.jpo (word16_hiByte_loByte a16))

theorem RoundTrip.xthl : Statement .xthl := roundTrip_one 0xE3 rfl rfl (fun _ _ => rfl)

theorem RoundTrip.cpo (a16 : Word) : Statement (.cpo a16) :=
  roundTrip_three 0xE4 a16 rfl rfl (congrArg Instr.cpo (word16_hiByte_loByte a16))

theorem RoundTrip.pushH : Statement .pushH := roundTrip_one 0xE5 rfl rfl (fun _ _ => rfl)

theorem RoundTrip.ani (d8 : Byte) : Statement (.ani d8) := roundTrip_two 0xE6 d8 rfl rfl (fun _ => rfl)

theorem RoundTrip.rst4 : Statement .rst4 := roundTrip_one 0xE7 rfl rfl (fun _ _ => rfl)

theorem RoundTrip.rpe : Statement .rpe := roundTrip_one 0xE8 rfl rfl (fun _ _ => rfl)

theorem RoundTrip.pchl : Statement .pchl := roundTrip_one 0xE9 rfl rfl (fun _ _ => rfl)

theorem RoundTrip.jpe (a16 : Word) : Statement (.jpe a16) :=
  roundTrip_three 0xEA a16 rfl rfl (congrArg Instr.jpe (word16_hiByte_loByte a16))

theorem RoundTrip.xchg : Statement .xchg := roundTrip_one 0xEB rfl rfl (fun _ _ => rfl)

theorem RoundTrip.cpe (a16 : Word) : Statement (.cpe a16) :=
  roundTrip_three 0xEC a16 rfl rfl (congrArg Instr.cpe (word16_hiByte_loByte a16))

theorem RoundTrip.xri (d8 : Byte) : Statement (.xri d8) := roundTrip_two 0xEE d8 rfl rfl (fun _ => rfl)

theorem RoundTrip.rst5 : Statement .rst5 := roundTrip_one 0xEF rfl rfl (fun _ _ => rfl)

theorem RoundTrip.rp : Statement .rp := roundTrip_one 0xF0 rfl rfl (fun _ _ => rfl)

theorem RoundTrip.popPsw : Statement .popPsw := roundTrip_one 0xF1 rfl rfl (fun _ _ => rfl)

theorem RoundTrip.jp (a16 : Word) : Statement (.jp a16) :=
  roundTrip_three 0xF2 a16 rfl rfl (congrArg Instr.jp (word16_hiByte_loByte a16))

theorem RoundTrip.di : Statement .di := roundTrip_one 0xF3 rfl rfl (fun _ _ => rfl)

theorem RoundTrip.cp (a16 : Word) : Statement (.cp a16) :=
  roundTrip_three 0xF4 a16 rfl rfl (congrArg Instr.cp (word16_hiByte_loByte a16))

theorem RoundTrip.pushPsw : Statement .pushPsw := roundTrip_one 0xF5 rfl rfl (fun _ _ => rfl)

theorem RoundTrip.ori (d8 : Byte) : Statement (.ori d8) := roundTrip_two 0xF6 d8 rfl rfl (fun _ => rfl)

theorem RoundTrip.rst6 : Statement .rst6 := roundTrip_one 0xF7 rfl rfl (fun _ _ => rfl)

theorem RoundTrip.rm : Statement .rm := roundTrip_one 0xF8 rfl rfl (fun _ _ => rfl)

theorem RoundTrip.sphl : Statement .sphl := roundTrip_one 0xF9 rfl rfl (fun _ _ => rfl)

theorem RoundTrip.jm (a16 : Word) : Statement (.jm a16) :=
  roundTrip_three 0xFA a16 rfl rfl (congrArg Instr.jm (word16_hiByte_loByte a16))

theorem RoundTrip.ei : Statement .ei := roundTrip_one 0xFB rfl rfl (fun _ _ => rfl)

theorem RoundTrip.cm (a16 : Word) : Statement (.cm a16) :=
  roundTrip_three 0xFC a16 rfl rfl (congrArg Instr.cm (word16_hiByte_loByte a16))

theorem RoundTrip.cpi (d8 : Byte) : Statement (.cpi d8) := roundTrip_two 0xFE d8 rfl rfl (fun _ => rfl)

theorem RoundTrip.rst7 : Statement .rst7 := roundTrip_one 0xFF rfl rfl (fun _ _ => rfl)

end Sys2Proof.Laws
end

