-- ==== Sys2Proof/Laws/Step.lean ====
section
/-! SUPPORT. What a step and the scheduler do: the inversion of a step, and what the scheduler leaves alone. -/

namespace Sys2Proof.Machine

/-! ### The scheduler -/

/-- A view of the state that neither a pending vector nor the scheduler's own fields, the port inputs and the two sound queues are
seen in. -/
structure BlindToScheduler {α : Type} (f : State → α) : Prop where
  pending : ∀ (s : State) (v : Option (BitVec 3)), f (s.setPending v) = f s
  pacing : ∀ (s : State) (n k : Nat), f (s.setPacing n k) = f s
  phase : ∀ (s : State) (p : Phase), f (s.setPhase p) = f s
  events : ∀ (s : State) (q : List SoundEvent), f (s.setSoundEvents q) = f s
  output : ∀ (s : State) (q : List SoundEvent), f (s.setSoundOutput q) = f s
  input : ∀ (s : State) (m : Cells), f (s.setInput m) = f s
  run : ∀ (s : State) (r : RunStatus), f (s.setRun r) = f s
  host : ∀ (s : State) (q : List HostSample) (n : Nat), f (s.setHost q n) = f s

theorem raiseInterrupt_blind {α : Type} {f : State → α} (h : BlindToScheduler f) (s : State) (v : BitVec 3) :
    f (s.raiseInterrupt v) = f s := by
  unfold State.raiseInterrupt
  split
  · exact h.pending ..
  · rfl

theorem yield_blind {α : Type} {f : State → α} (h : BlindToScheduler f) (s : State) : f s.yield = f s := by
  rw [State.yield, h.host, h.run, h.input, State.drainSound, h.events, h.output]

/-- The scheduler's part of an iteration leaves such a view alone (R271 to R275). -/
theorem schedule_blind {α : Type} {f : State → α} (h : BlindToScheduler f) (s : State) (c : Nat) :
    f (s.schedule c) = f s := by
  unfold State.schedule State.dueEvent
  split
  · split
    · rw [State.midFrame, h.pacing, h.phase, raiseInterrupt_blind h, State.countCycles, h.pacing]
    · rw [State.endOfFrame, h.pacing, h.phase, yield_blind h, raiseInterrupt_blind h, State.countCycles, h.pacing]
  · rw [State.countCycles, h.pacing]

theorem blind_regs : BlindToScheduler State.regs :=
  ⟨fun _ _ => rfl, fun _ _ _ => rfl, fun _ _ => rfl, fun _ _ => rfl, fun _ _ => rfl, fun _ _ => rfl, fun _ _ => rfl, fun _ _ _ => rfl⟩
@[simp] theorem raiseInterrupt_regs (s : State) (v : BitVec 3) : (s.raiseInterrupt v).regs = s.regs :=
  raiseInterrupt_blind blind_regs s v
@[simp] theorem yield_regs (s : State) : s.yield.regs = s.regs := yield_blind blind_regs s
@[simp] theorem schedule_regs (s : State) (c : Nat) : (s.schedule c).regs = s.regs := schedule_blind blind_regs s c
theorem blind_flags : BlindToScheduler State.flags :=
  ⟨fun _ _ => rfl, fun _ _ _ => rfl, fun _ _ => rfl, fun _ _ => rfl, fun _ _ => rfl, fun _ _ => rfl, fun _ _ => rfl, fun _ _ _ => rfl⟩
@[simp] theorem raiseInterrupt_flags (s : State) (v : BitVec 3) : (s.raiseInterrupt v).flags = s.flags :=
  raiseInterrupt_blind blind_flags s v
@[simp] theorem yield_flags (s : State) : s.yield.flags = s.flags := yield_blind blind_flags s
@[simp] theorem schedule_flags (s : State) (c : Nat) : (s.schedule c).flags = s.flags := schedule_blind blind_flags s c
theorem blind_sp : BlindToScheduler State.sp :=
  ⟨fun _ _ => rfl, fun _ _ _ => rfl, fun _ _ => rfl, fun _ _ => rfl, fun _ _ => rfl, fun _ _ => rfl, fun _ _ => rfl, fun _ _ _ => rfl⟩
@[simp] theorem raiseInterrupt_sp (s : State) (v : BitVec 3) : (s.raiseInterrupt v).sp = s.sp :=
  raiseInterrupt_blind blind_sp s v
@[simp] theorem yield_sp (s : State) : s.yield.sp = s.sp := yield_blind blind_sp s
@[simp] theorem schedule_sp (s : State) (c : Nat) : (s.schedule c).sp = s.sp := schedule_blind blind_sp s c
theorem blind_pc : BlindToScheduler State.pc :=
  ⟨fun _ _ => rfl, fun _ _ _ => rfl, fun _ _ => rfl, fun _ _ => rfl, fun _ _ => rfl, fun _ _ => rfl, fun _ _ => rfl, fun _ _ _ => rfl⟩
@[simp] theorem raiseInterrupt_pc (s : State) (v : BitVec 3) : (s.raiseInterrupt v).pc = s.pc :=
  raiseInterrupt_blind blind_pc s v
@[simp] theorem yield_pc (s : State) : s.yield.pc = s.pc := yield_blind blind_pc s
@[simp] theorem schedule_pc (s : State) (c : Nat) : (s.schedule c).pc = s.pc := schedule_blind blind_pc s c
theorem blind_ie : BlindToScheduler State.ie :=
  ⟨fun _ _ => rfl, fun _ _ _ => rfl, fun _ _ => rfl, fun _ _ => rfl, fun _ _ => rfl, fun _ _ => rfl, fun _ _ => rfl, fun _ _ _ => rfl⟩
@[simp] theorem raiseInterrupt_ie (s : State) (v : BitVec 3) : (s.raiseInterrupt v).ie = s.ie :=
  raiseInterrupt_blind blind_ie s v
@[simp] theorem yield_ie (s : State) : s.yield.ie = s.ie := yield_blind blind_ie s
@[simp] theorem schedule_ie (s : State) (c : Nat) : (s.schedule c).ie = s.ie := schedule_blind blind_ie s c
theorem blind_halted : BlindToScheduler State.halted :=
  ⟨fun _ _ => rfl, fun _ _ _ => rfl, fun _ _ => rfl, fun _ _ => rfl, fun _ _ => rfl, fun _ _ => rfl, fun _ _ => rfl, fun _ _ _ => rfl⟩
@[simp] theorem raiseInterrupt_halted (s : State) (v : BitVec 3) : (s.raiseInterrupt v).halted = s.halted :=
  raiseInterrupt_blind blind_halted s v
@[simp] theorem yield_halted (s : State) : s.yield.halted = s.halted := yield_blind blind_halted s
@[simp] theorem schedule_halted (s : State) (c : Nat) : (s.schedule c).halted = s.halted := schedule_blind blind_halted s c
theorem blind_fault : BlindToScheduler State.fault :=
  ⟨fun _ _ => rfl, fun _ _ _ => rfl, fun _ _ => rfl, fun _ _ => rfl, fun _ _ => rfl, fun _ _ => rfl, fun _ _ => rfl, fun _ _ _ => rfl⟩
@[simp] theorem raiseInterrupt_fault (s : State) (v : BitVec 3) : (s.raiseInterrupt v).fault = s.fault :=
  raiseInterrupt_blind blind_fault s v
@[simp] theorem yield_fault (s : State) : s.yield.fault = s.fault := yield_blind blind_fault s
@[simp] theorem schedule_fault (s : State) (c : Nat) : (s.schedule c).fault = s.fault := schedule_blind blind_fault s c
theorem blind_shiftRegister : BlindToScheduler State.shiftRegister :=
  ⟨fun _ _ => rfl, fun _ _ _ => rfl, fun _ _ => rfl, fun _ _ => rfl, fun _ _ => rfl, fun _ _ => rfl, fun _ _ => rfl, fun _ _ _ => rfl⟩
@[simp] theorem raiseInterrupt_shiftRegister (s : State) (v : BitVec 3) : (s.raiseInterrupt v).shiftRegister = s.shiftRegister :=
  raiseInterrupt_blind blind_shiftRegister s v
@[simp] theorem yield_shiftRegister (s : State) : s.yield.shiftRegister = s.shiftRegister := yield_blind blind_shiftRegister s
@[simp] theorem schedule_shiftRegister (s : State) (c : Nat) : (s.schedule c).shiftRegister = s.shiftRegister := schedule_blind blind_shiftRegister s c
theorem blind_shiftAmount : BlindToScheduler State.shiftAmount :=
  ⟨fun _ _ => rfl, fun _ _ _ => rfl, fun _ _ => rfl, fun _ _ => rfl, fun _ _ => rfl, fun _ _ => rfl, fun _ _ => rfl, fun _ _ _ => rfl⟩
@[simp] theorem raiseInterrupt_shiftAmount (s : State) (v : BitVec 3) : (s.raiseInterrupt v).shiftAmount = s.shiftAmount :=
  raiseInterrupt_blind blind_shiftAmount s v
@[simp] theorem yield_shiftAmount (s : State) : s.yield.shiftAmount = s.shiftAmount := yield_blind blind_shiftAmount s
@[simp] theorem schedule_shiftAmount (s : State) (c : Nat) : (s.schedule c).shiftAmount = s.shiftAmount := schedule_blind blind_shiftAmount s c
theorem blind_soundLatch : BlindToScheduler State.soundLatch :=
  ⟨fun _ _ => rfl, fun _ _ _ => rfl, fun _ _ => rfl, fun _ _ => rfl, fun _ _ => rfl, fun _ _ => rfl, fun _ _ => rfl, fun _ _ _ => rfl⟩
@[simp] theorem raiseInterrupt_soundLatch (s : State) (v : BitVec 3) : (s.raiseInterrupt v).soundLatch = s.soundLatch :=
  raiseInterrupt_blind blind_soundLatch s v
@[simp] theorem yield_soundLatch (s : State) : s.yield.soundLatch = s.soundLatch := yield_blind blind_soundLatch s
@[simp] theorem schedule_soundLatch (s : State) (c : Nat) : (s.schedule c).soundLatch = s.soundLatch := schedule_blind blind_soundLatch s c
theorem blind_mem : BlindToScheduler State.mem :=
  ⟨fun _ _ => rfl, fun _ _ _ => rfl, fun _ _ => rfl, fun _ _ => rfl, fun _ _ => rfl, fun _ _ => rfl, fun _ _ => rfl, fun _ _ _ => rfl⟩
@[simp] theorem raiseInterrupt_mem (s : State) (v : BitVec 3) : (s.raiseInterrupt v).mem = s.mem :=
  raiseInterrupt_blind blind_mem s v
@[simp] theorem yield_mem (s : State) : s.yield.mem = s.mem := yield_blind blind_mem s
@[simp] theorem schedule_mem (s : State) (c : Nat) : (s.schedule c).mem = s.mem := schedule_blind blind_mem s c
theorem blind_config : BlindToScheduler State.config :=
  ⟨fun _ _ => rfl, fun _ _ _ => rfl, fun _ _ => rfl, fun _ _ => rfl, fun _ _ => rfl, fun _ _ => rfl, fun _ _ => rfl, fun _ _ _ => rfl⟩
@[simp] theorem raiseInterrupt_config (s : State) (v : BitVec 3) : (s.raiseInterrupt v).config = s.config :=
  raiseInterrupt_blind blind_config s v
@[simp] theorem yield_config (s : State) : s.yield.config = s.config := yield_blind blind_config s
@[simp] theorem schedule_config (s : State) (c : Nat) : (s.schedule c).config = s.config := schedule_blind blind_config s c

@[simp] theorem schedule_read8 (s : State) (c : Nat) (a : Word) : (s.schedule c).read8 a = s.read8 a :=
  read8_eq_of_mem (schedule_mem s c) a

@[simp] theorem schedule_totalCycles (s : State) (c : Nat) : (s.schedule c).totalCycles = s.totalCycles + c := by
  unfold State.schedule State.dueEvent
  split
  · split
    · simp [State.midFrame, State.countCycles, State.raiseInterrupt]
    · simp [State.endOfFrame, State.countCycles, State.yield, State.raiseInterrupt]
  · simp [State.countCycles]

@[simp] theorem raiseInterrupt_pending (s : State) (v : BitVec 3) :
    (s.raiseInterrupt v).pending = if s.ie then some v else s.pending := by
  unfold State.raiseInterrupt
  split <;> rfl
@[simp] theorem raiseInterrupt_input (s : State) (v : BitVec 3) : (s.raiseInterrupt v).input = s.input := by
  unfold State.raiseInterrupt; split <;> rfl
@[simp] theorem raiseInterrupt_soundEvents (s : State) (v : BitVec 3) : (s.raiseInterrupt v).soundEvents = s.soundEvents := by
  unfold State.raiseInterrupt; split <;> rfl
@[simp] theorem raiseInterrupt_soundOutput (s : State) (v : BitVec 3) : (s.raiseInterrupt v).soundOutput = s.soundOutput := by
  unfold State.raiseInterrupt; split <;> rfl
@[simp] theorem raiseInterrupt_totalCycles (s : State) (v : BitVec 3) : (s.raiseInterrupt v).totalCycles = s.totalCycles := by
  unfold State.raiseInterrupt; split <;> rfl
@[simp] theorem raiseInterrupt_halfCycles (s : State) (v : BitVec 3) : (s.raiseInterrupt v).halfCycles = s.halfCycles := by
  unfold State.raiseInterrupt; split <;> rfl
@[simp] theorem raiseInterrupt_phase (s : State) (v : BitVec 3) : (s.raiseInterrupt v).phase = s.phase := by
  unfold State.raiseInterrupt; split <;> rfl
@[simp] theorem raiseInterrupt_run (s : State) (v : BitVec 3) : (s.raiseInterrupt v).run = s.run := by
  unfold State.raiseInterrupt; split <;> rfl
@[simp] theorem raiseInterrupt_hostQueue (s : State) (v : BitVec 3) : (s.raiseInterrupt v).hostQueue = s.hostQueue := by
  unfold State.raiseInterrupt; split <;> rfl
@[simp] theorem raiseInterrupt_yields (s : State) (v : BitVec 3) : (s.raiseInterrupt v).yields = s.yields := by
  unfold State.raiseInterrupt; split <;> rfl

@[simp] theorem yield_soundEvents (s : State) : s.yield.soundEvents = [] := rfl
@[simp] theorem yield_soundOutput (s : State) : s.yield.soundOutput = s.soundOutput ++ s.soundEvents := rfl

/-- The scheduler's part of an iteration loses no sound event and replays none: it moves the queue to the output, or leaves both
(R275). -/
theorem schedule_sound (s : State) (c : Nat) :
    ((s.schedule c).soundOutput = s.soundOutput ∧ (s.schedule c).soundEvents = s.soundEvents) ∨
    ((s.schedule c).soundOutput = s.soundOutput ++ s.soundEvents ∧ (s.schedule c).soundEvents = [] ∧
      (s.schedule c).yields = s.yields + 1) := by
  unfold State.schedule State.dueEvent
  split
  · split
    · exact .inl (by simp [State.midFrame, State.countCycles])
    · exact .inr (by simp [State.endOfFrame, State.countCycles, State.yield, State.drainSound])
  · exact .inl (by simp [State.countCycles])

/-- A yield keeps the input snapshots canonical: it writes port numbers only (R61, R275). -/
theorem portWf_sampleInputs {s : State} (h : s.input.portWf = true) (ports : List Byte) :
    (s.sampleInputs ports).portWf = true := by
  have key : ∀ (l : List Byte) (m : Cells), m.portWf = true →
      Cells.portWf (l.foldl (fun m p => Cells.set m p.toNat (s.nextInput p)) m) = true := by
    intro l
    induction l with
    | nil => exact fun _ hm => hm
    | cons p l ih => exact fun m hm => ih _ (portWf_set hm _ _)
  exact key ports s.input h

/-- The three things the scheduler's part of an iteration can be (R271). -/
theorem schedule_cases (s : State) (c : Nat) :
    (s.halfCycles + c < s.config.halfBudget ∧ s.schedule c = s.countCycles c) ∨
    (s.config.halfBudget ≤ s.halfCycles + c ∧ s.phase = .first ∧ s.schedule c = (s.countCycles c).midFrame) ∨
    (s.config.halfBudget ≤ s.halfCycles + c ∧ s.phase = .second ∧ s.schedule c = (s.countCycles c).endOfFrame) := by
  have hc : (s.countCycles c).halfCycles = s.halfCycles + c := rfl
  have hp : (s.countCycles c).phase = s.phase := rfl
  have hb : (s.countCycles c).config = s.config := rfl
  by_cases h : s.config.halfBudget ≤ s.halfCycles + c
  · cases hph : s.phase with
    | first => exact .inr (.inl ⟨h, rfl, by simp only [State.schedule, State.dueEvent, hc, hp, hb, h, hph, if_true]⟩)
    | second => exact .inr (.inr ⟨h, rfl, by simp only [State.schedule, State.dueEvent, hc, hp, hb, h, hph, if_true]⟩)
  · exact .inl ⟨by omega, by simp only [State.schedule, State.dueEvent, hc, hb, h, if_false]⟩

/-! ### The step -/

/-- The state after a fetched instruction, before the scheduler's part. -/
def State.executed (s : State) : State := effect s.fetched.form (s.advance s.fetched)

/-- An instruction appends to the sound events, and only an OUT appends anything (R44, R287). -/
theorem executed_soundEvents (s : State) :
    ∃ l, s.executed.soundEvents = s.soundEvents ++ l ∧ (l ≠ [] → ∃ p, s.fetched = .outPort p) := by
  by_cases hw : writesSystem s.fetched.form = false
  · have h := effect_blind (f := State.soundEvents) (s.advance s.fetched)
      ⟨by simp, by simp, by simp, by simp, by simp⟩ _ hw
    exact ⟨[], by rw [State.executed, h]; simp [State.advance], by simp⟩
  · generalize hf : s.fetched = i at hw
    rw [State.executed, hf]
    cases i <;> simp [Instr.form, writesSystem] at hw <;> simp only [Instr.form, effect, State.raiseFatal]
    case outPort p =>
      simp only [State.portOut]
      split
      · exact ⟨[], by simp [State.advance], by simp⟩
      · split
        · exact ⟨[], by simp [State.advance], by simp⟩
        · split
          · exact ⟨_, by simp [State.soundWrite, State.advance]; rfl, fun _ => ⟨p, rfl⟩⟩
          · exact ⟨[], by simp [State.advance], by simp⟩
    all_goals exact ⟨[], by simp [State.advance], by simp⟩

/-- A live machine's step is the CPU's step and the rest of the iteration. -/
theorem step_live {s : State} (h : s.live) : step s = afterCpuStep (cpuCycles s) (cpuStep s) := by
  unfold step schedulerIteration
  rw [h.1, h.2]

theorem step_pending {s : State} {v : BitVec 3} (h : s.live) (hp : s.pending = some v) :
    step s = .next ((s.interruptEntry v).schedule (entryCycles s.config v)) := by
  have hf : (s.interruptEntry v).fault = none := by simp [State.interruptEntry, State.callTo, h.1]
  rw [step_live h]
  simp only [cpuStep, cpuCycles, hp, afterCpuStep, hf]

theorem step_halted {s : State} (h : s.live) (hp : s.pending = none) (hh : s.halted = true) :
    step s = .next (s.schedule s.config.haltIdleCycles) := by
  rw [step_live h]
  simp only [cpuStep, cpuCycles, hp, hh, if_true, afterCpuStep, h.1]

/-- What the step of a fetched instruction does: the scheduler's part is left out exactly when the instruction raised the fatal error. -/
theorem step_fetching {s : State} (h : s.fetching) :
    step s = .next (match s.executed.fault with
      | some _ => s.executed
      | none => s.executed.schedule (cyclesOf s.config s.fetched.opcode (conditionTaken s.fetched s.flags))) := by
  obtain ⟨hl, hp, hh⟩ := h
  rw [step_live hl]
  simp only [cpuStep, cpuCycles, hp, hh, Bool.false_eq_true, if_false, exec_eq_effect, afterCpuStep, State.executed]
  split <;> simp_all

/-- Everything a step that answers a next state can be. -/
theorem step_cases {s t : State} (h : step s = .next t) :
    s.live ∧
    ((∃ v, s.pending = some v ∧ t = (s.interruptEntry v).schedule (entryCycles s.config v)) ∨
     (s.pending = none ∧ s.halted = true ∧ t = s.schedule s.config.haltIdleCycles) ∨
     (s.fetching ∧ s.executed.fault ≠ none ∧ t = s.executed) ∨
     (s.fetching ∧ s.executed.fault = none ∧
       t = s.executed.schedule (cyclesOf s.config s.fetched.opcode (conditionTaken s.fetched s.flags)))) := by
  have hl : s.live := by
    unfold step schedulerIteration at h
    split at h
    · cases h
    · split at h
      · cases h
      · exact ⟨‹_›, ‹_›⟩
  refine ⟨hl, ?_⟩
  cases hp : s.pending with
  | some v =>
    rw [step_pending hl hp] at h
    exact .inl ⟨v, rfl, (Host.Outcome.next.inj h).symm⟩
  | none =>
    cases hh : s.halted with
    | true =>
      rw [step_halted hl hp hh] at h
      exact .inr (.inl ⟨rfl, rfl, (Host.Outcome.next.inj h).symm⟩)
    | false =>
      have hf : s.fetching := ⟨hl, hp, hh⟩
      rw [step_fetching hf] at h
      have ht := (Host.Outcome.next.inj h).symm
      cases he : s.executed.fault with
      | some e =>
        rw [he] at ht
        exact .inr (.inr (.inl ⟨hf, by simp, ht⟩))
      | none =>
        rw [he] at ht
        exact .inr (.inr (.inr ⟨hf, rfl, ht⟩))

end Sys2Proof.Machine
end

