-- ==== Sys2Proof/Tests/Slice0.lean ====
section
/-! SUPPORT. The model's own tests. Expected values come from 95_test_vectors.md, the encodings from spec/opcode_table.json; the theorems
named test_meets_… give, for each obligation with hypotheses, concrete states and operands that meet them. -/

namespace Sys2Proof.Tests

open Sys2Proof.Machine

set_option Elab.async false

/-! ## Well-formedness -/

theorem test_unsupported_byte_is_well_formed : (Instr.unsupported 0x08).wellFormed = true := by decide
theorem test_documented_byte_as_unsupported_is_refused : (Instr.unsupported 0x41).wellFormed = false := by decide
theorem test_default_parameters_are_well_formed : Config.platform.wf = true := by decide
theorem test_zero_half_budget_is_refused : { Config.platform with halfBudget := 0 }.wf = false := by decide
theorem test_zero_halt_idle_cycles_is_refused : { Config.platform with haltIdleCycles := 0 }.wf = false := by decide
theorem test_zero_cycle_count_is_refused :
    { Config.platform with cycleOverrides := [⟨0xC0, 0, 11⟩] }.wf = false ∧
      { Config.platform with cycleOverrides := [⟨0xC0, 5, 0⟩] }.wf = false := by decide
theorem test_program_region_over_64K_is_refused :
    { Config.platform with programRegionSize := 65537 }.wf = false ∧
      { Config.platform with programRegionSize := 65536 }.wf = true := by decide
theorem test_shift_read_port_as_input_port_is_refused :
    { Config.platform with inputPorts := [0, 3] }.wf = false := by decide
theorem test_two_roles_on_one_out_port_are_refused :
    { Config.platform with shiftDataPort := 2 }.wf = false ∧
      { Config.platform with soundMask := [(4, 0x0F)] }.wf = false ∧
      { Config.platform with soundMask := [(3, 0x0F), (3, 0x1F)] }.wf = false := by decide

/-! ## Decoding: every row of spec/opcode_table.json, operand byte 0xA5, operand word 0x1234 (low byte first, R97) -/

/-- The decoder reads `i` from the bits `w`. -/
def reads (nbits w : Nat) (i : Instr) : Bool := decodeTableWord nbits w == some i

theorem test_decode_00_to_07 : [
    reads 8 0b00000000 .nop,
    reads 24 0b000100100011010000000001 (.lxiB 0x1234),
    reads 8 0b00000010 .staxB,
    reads 8 0b00000011 .inxB,
    reads 8 0b00000100 .inrB,
    reads 8 0b00000101 .dcrB,
    reads 16 0b1010010100000110 (.mviB 0xA5),
    reads 8 0b00000111 .rlc].all id = true := by decide +kernel

theorem test_decode_08_to_0F : [
    reads 8 0b00001000 (.unsupported 0x08),
    reads 8 0b00001001 .dadB,
    reads 8 0b00001010 .ldaxB,
    reads 8 0b00001011 .dcxB,
    reads 8 0b00001100 .inrC,
    reads 8 0b00001101 .dcrC,
    reads 16 0b1010010100001110 (.mviC 0xA5),
    reads 8 0b00001111 .rrc].all id = true := by decide +kernel

theorem test_decode_10_to_17 : [
    reads 8 0b00010000 (.unsupported 0x10),
    reads 24 0b000100100011010000010001 (.lxiD 0x1234),
    reads 8 0b00010010 .staxD,
    reads 8 0b00010011 .inxD,
    reads 8 0b00010100 .inrD,
    reads 8 0b00010101 .dcrD,
    reads 16 0b1010010100010110 (.mviD 0xA5),
    reads 8 0b00010111 .ral].all id = true := by decide +kernel

theorem test_decode_18_to_1F : [
    reads 8 0b00011000 (.unsupported 0x18),
    reads 8 0b00011001 .dadD,
    reads 8 0b00011010 .ldaxD,
    reads 8 0b00011011 .dcxD,
    reads 8 0b00011100 .inrE,
    reads 8 0b00011101 .dcrE,
    reads 16 0b1010010100011110 (.mviE 0xA5),
    reads 8 0b00011111 .rar].all id = true := by decide +kernel

theorem test_decode_20_to_27 : [
    reads 8 0b00100000 (.unsupported 0x20),
    reads 24 0b000100100011010000100001 (.lxiH 0x1234),
    reads 24 0b000100100011010000100010 (.shld 0x1234),
    reads 8 0b00100011 .inxH,
    reads 8 0b00100100 .inrH,
    reads 8 0b00100101 .dcrH,
    reads 16 0b1010010100100110 (.mviH 0xA5),
    reads 8 0b00100111 .daa].all id = true := by decide +kernel

theorem test_decode_28_to_2F : [
    reads 8 0b00101000 (.unsupported 0x28),
    reads 8 0b00101001 .dadH,
    reads 24 0b000100100011010000101010 (.lhld 0x1234),
    reads 8 0b00101011 .dcxH,
    reads 8 0b00101100 .inrL,
    reads 8 0b00101101 .dcrL,
    reads 16 0b1010010100101110 (.mviL 0xA5),
    reads 8 0b00101111 .cma].all id = true := by decide +kernel

theorem test_decode_30_to_37 : [
    reads 8 0b00110000 (.unsupported 0x30),
    reads 24 0b000100100011010000110001 (.lxiSp 0x1234),
    reads 24 0b000100100011010000110010 (.sta 0x1234),
    reads 8 0b00110011 .inxSp,
    reads 8 0b00110100 .inrM,
    reads 8 0b00110101 .dcrM,
    reads 16 0b1010010100110110 (.mviM 0xA5),
    reads 8 0b00110111 .stc].all id = true := by decide +kernel

theorem test_decode_38_to_3F : [
    reads 8 0b00111000 (.unsupported 0x38),
    reads 8 0b00111001 .dadSp,
    reads 24 0b000100100011010000111010 (.lda 0x1234),
    reads 8 0b00111011 .dcxSp,
    reads 8 0b00111100 .inrA,
    reads 8 0b00111101 .dcrA,
    reads 16 0b1010010100111110 (.mviA 0xA5),
    reads 8 0b00111111 .cmc].all id = true := by decide +kernel

theorem test_decode_40_to_47 : [
    reads 8 0b01000000 .movBB,
    reads 8 0b01000001 .movBC,
    reads 8 0b01000010 .movBD,
    reads 8 0b01000011 .movBE,
    reads 8 0b01000100 .movBH,
    reads 8 0b01000101 .movBL,
    reads 8 0b01000110 .movBM,
    reads 8 0b01000111 .movBA].all id = true := by decide +kernel

theorem test_decode_48_to_4F : [
    reads 8 0b01001000 .movCB,
    reads 8 0b01001001 .movCC,
    reads 8 0b01001010 .movCD,
    reads 8 0b01001011 .movCE,
    reads 8 0b01001100 .movCH,
    reads 8 0b01001101 .movCL,
    reads 8 0b01001110 .movCM,
    reads 8 0b01001111 .movCA].all id = true := by decide +kernel

theorem test_decode_50_to_57 : [
    reads 8 0b01010000 .movDB,
    reads 8 0b01010001 .movDC,
    reads 8 0b01010010 .movDD,
    reads 8 0b01010011 .movDE,
    reads 8 0b01010100 .movDH,
    reads 8 0b01010101 .movDL,
    reads 8 0b01010110 .movDM,
    reads 8 0b01010111 .movDA].all id = true := by decide +kernel

theorem test_decode_58_to_5F : [
    reads 8 0b01011000 .movEB,
    reads 8 0b01011001 .movEC,
    reads 8 0b01011010 .movED,
    reads 8 0b01011011 .movEE,
    reads 8 0b01011100 .movEH,
    reads 8 0b01011101 .movEL,
    reads 8 0b01011110 .movEM,
    reads 8 0b01011111 .movEA].all id = true := by decide +kernel

theorem test_decode_60_to_67 : [
    reads 8 0b01100000 .movHB,
    reads 8 0b01100001 .movHC,
    reads 8 0b01100010 .movHD,
    reads 8 0b01100011 .movHE,
    reads 8 0b01100100 .movHH,
    reads 8 0b01100101 .movHL,
    reads 8 0b01100110 .movHM,
    reads 8 0b01100111 .movHA].all id = true := by decide +kernel

theorem test_decode_68_to_6F : [
    reads 8 0b01101000 .movLB,
    reads 8 0b01101001 .movLC,
    reads 8 0b01101010 .movLD,
    reads 8 0b01101011 .movLE,
    reads 8 0b01101100 .movLH,
    reads 8 0b01101101 .movLL,
    reads 8 0b01101110 .movLM,
    reads 8 0b01101111 .movLA].all id = true := by decide +kernel

theorem test_decode_70_to_77 : [
    reads 8 0b01110000 .movMB,
    reads 8 0b01110001 .movMC,
    reads 8 0b01110010 .movMD,
    reads 8 0b01110011 .movME,
    reads 8 0b01110100 .movMH,
    reads 8 0b01110101 .movML,
    reads 8 0b01110110 .hlt,
    reads 8 0b01110111 .movMA].all id = true := by decide +kernel

theorem test_decode_78_to_7F : [
    reads 8 0b01111000 .movAB,
    reads 8 0b01111001 .movAC,
    reads 8 0b01111010 .movAD,
    reads 8 0b01111011 .movAE,
    reads 8 0b01111100 .movAH,
    reads 8 0b01111101 .movAL,
    reads 8 0b01111110 .movAM,
    reads 8 0b01111111 .movAA].all id = true := by decide +kernel

theorem test_decode_80_to_87 : [
    reads 8 0b10000000 .addB,
    reads 8 0b10000001 .addC,
    reads 8 0b10000010 .addD,
    reads 8 0b10000011 .addE,
    reads 8 0b10000100 .addH,
    reads 8 0b10000101 .addL,
    reads 8 0b10000110 .addM,
    reads 8 0b10000111 .addA].all id = true := by decide +kernel

theorem test_decode_88_to_8F : [
    reads 8 0b10001000 .adcB,
    reads 8 0b10001001 .adcC,
    reads 8 0b10001010 .adcD,
    reads 8 0b10001011 .adcE,
    reads 8 0b10001100 .adcH,
    reads 8 0b10001101 .adcL,
    reads 8 0b10001110 .adcM,
    reads 8 0b10001111 .adcA].all id = true := by decide +kernel

theorem test_decode_90_to_97 : [
    reads 8 0b10010000 .subB,
    reads 8 0b10010001 .subC,
    reads 8 0b10010010 .subD,
    reads 8 0b10010011 .subE,
    reads 8 0b10010100 .subH,
    reads 8 0b10010101 .subL,
    reads 8 0b10010110 .subM,
    reads 8 0b10010111 .subA].all id = true := by decide +kernel

theorem test_decode_98_to_9F : [
    reads 8 0b10011000 .sbbB,
    reads 8 0b10011001 .sbbC,
    reads 8 0b10011010 .sbbD,
    reads 8 0b10011011 .sbbE,
    reads 8 0b10011100 .sbbH,
    reads 8 0b10011101 .sbbL,
    reads 8 0b10011110 .sbbM,
    reads 8 0b10011111 .sbbA].all id = true := by decide +kernel

theorem test_decode_A0_to_A7 : [
    reads 8 0b10100000 .anaB,
    reads 8 0b10100001 .anaC,
    reads 8 0b10100010 .anaD,
    reads 8 0b10100011 .anaE,
    reads 8 0b10100100 .anaH,
    reads 8 0b10100101 .anaL,
    reads 8 0b10100110 .anaM,
    reads 8 0b10100111 .anaA].all id = true := by decide +kernel

theorem test_decode_A8_to_AF : [
    reads 8 0b10101000 .xraB,
    reads 8 0b10101001 .xraC,
    reads 8 0b10101010 .xraD,
    reads 8 0b10101011 .xraE,
    reads 8 0b10101100 .xraH,
    reads 8 0b10101101 .xraL,
    reads 8 0b10101110 .xraM,
    reads 8 0b10101111 .xraA].all id = true := by decide +kernel

theorem test_decode_B0_to_B7 : [
    reads 8 0b10110000 .oraB,
    reads 8 0b10110001 .oraC,
    reads 8 0b10110010 .oraD,
    reads 8 0b10110011 .oraE,
    reads 8 0b10110100 .oraH,
    reads 8 0b10110101 .oraL,
    reads 8 0b10110110 .oraM,
    reads 8 0b10110111 .oraA].all id = true := by decide +kernel

theorem test_decode_B8_to_BF : [
    reads 8 0b10111000 .cmpB,
    reads 8 0b10111001 .cmpC,
    reads 8 0b10111010 .cmpD,
    reads 8 0b10111011 .cmpE,
    reads 8 0b10111100 .cmpH,
    reads 8 0b10111101 .cmpL,
    reads 8 0b10111110 .cmpM,
    reads 8 0b10111111 .cmpA].all id = true := by decide +kernel

theorem test_decode_C0_to_C7 : [
    reads 8 0b11000000 .rnz,
    reads 8 0b11000001 .popB,
    reads 24 0b000100100011010011000010 (.jnz 0x1234),
    reads 24 0b000100100011010011000011 (.jmp 0x1234),
    reads 24 0b000100100011010011000100 (.cnz 0x1234),
    reads 8 0b11000101 .pushB,
    reads 16 0b1010010111000110 (.adi 0xA5),
    reads 8 0b11000111 .rst0].all id = true := by decide +kernel

theorem test_decode_C8_to_CF : [
    reads 8 0b11001000 .rz,
    reads 8 0b11001001 .ret,
    reads 24 0b000100100011010011001010 (.jz 0x1234),
    reads 8 0b11001011 (.unsupported 0xCB),
    reads 24 0b000100100011010011001100 (.cz 0x1234),
    reads 24 0b000100100011010011001101 (.call 0x1234),
    reads 16 0b1010010111001110 (.aci 0xA5),
    reads 8 0b11001111 .rst1].all id = true := by decide +kernel

theorem test_decode_D0_to_D7 : [
    reads 8 0b11010000 .rnc,
    reads 8 0b11010001 .popD,
    reads 24 0b000100100011010011010010 (.jnc 0x1234),
    reads 16 0b1010010111010011 (.outPort 0xA5),
    reads 24 0b000100100011010011010100 (.cnc 0x1234),
    reads 8 0b11010101 .pushD,
    reads 16 0b1010010111010110 (.sui 0xA5),
    reads 8 0b11010111 .rst2].all id = true := by decide +kernel

theorem test_decode_D8_to_DF : [
    reads 8 0b11011000 .rc,
    reads 8 0b11011001 (.unsupported 0xD9),
    reads 24 0b000100100011010011011010 (.jc 0x1234),
    reads 16 0b1010010111011011 (.inPort 0xA5),
    reads 24 0b000100100011010011011100 (.cc 0x1234),
    reads 8 0b11011101 (.unsupported 0xDD),
    reads 16 0b1010010111011110 (.sbi 0xA5),
    reads 8 0b11011111 .rst3].all id = true := by decide +kernel

theorem test_decode_E0_to_E7 : [
    reads 8 0b11100000 .rpo,
    reads 8 0b11100001 .popH,
    reads 24 0b000100100011010011100010 (.jpo 0x1234),
    reads 8 0b11100011 .xthl,
    reads 24 0b000100100011010011100100 (.cpo 0x1234),
    reads 8 0b11100101 .pushH,
    reads 16 0b1010010111100110 (.ani 0xA5),
    reads 8 0b11100111 .rst4].all id = true := by decide +kernel

theorem test_decode_E8_to_EF : [
    reads 8 0b11101000 .rpe,
    reads 8 0b11101001 .pchl,
    reads 24 0b000100100011010011101010 (.jpe 0x1234),
    reads 8 0b11101011 .xchg,
    reads 24 0b000100100011010011101100 (.cpe 0x1234),
    reads 8 0b11101101 (.unsupported 0xED),
    reads 16 0b1010010111101110 (.xri 0xA5),
    reads 8 0b11101111 .rst5].all id = true := by decide +kernel

theorem test_decode_F0_to_F7 : [
    reads 8 0b11110000 .rp,
    reads 8 0b11110001 .popPsw,
    reads 24 0b000100100011010011110010 (.jp 0x1234),
    reads 8 0b11110011 .di,
    reads 24 0b000100100011010011110100 (.cp 0x1234),
    reads 8 0b11110101 .pushPsw,
    reads 16 0b1010010111110110 (.ori 0xA5),
    reads 8 0b11110111 .rst6].all id = true := by decide +kernel

theorem test_decode_F8_to_FF : [
    reads 8 0b11111000 .rm,
    reads 8 0b11111001 .sphl,
    reads 24 0b000100100011010011111010 (.jm 0x1234),
    reads 8 0b11111011 .ei,
    reads 24 0b000100100011010011111100 (.cm 0x1234),
    reads 8 0b11111101 (.unsupported 0xFD),
    reads 16 0b1010010111111110 (.cpi 0xA5),
    reads 8 0b11111111 .rst7].all id = true := by decide +kernel
theorem test_row_without_operand_bits_has_zero_operands : reads 8 0x21 (.lxiH 0) = true := by decide +kernel
theorem test_truncated_instruction_is_refused : decode [0xC3, 0x00] = .error (.truncated 0xC3) := rfl
theorem test_no_bytes_are_refused : decode [] = .error .empty := rfl

/-! ## One step from a small state (95_test_vectors.md, section 2: everything 0 except what the row lists) -/

abbrev Edit := State → State

def r (x : Reg) (v : Byte) : Edit := fun s => s.setReg x v
def m (a : Nat) (v : Byte) : Edit := fun s => s.setMem (Cells.set s.mem a v)
def sp (v : Word) : Edit := fun s => s.setSp v
def fs (b : Bool) : Edit := fun s => s.setFlags { s.flags with s := b }
def fz (b : Bool) : Edit := fun s => s.setFlags { s.flags with z := b }
def fac (b : Bool) : Edit := fun s => s.setFlags { s.flags with ac := b }
def fp (b : Bool) : Edit := fun s => s.setFlags { s.flags with p := b }
def fcy (b : Bool) : Edit := fun s => s.setFlags { s.flags with cy := b }
def ie (b : Bool) : Edit := fun s => s.setIe b
def halt (b : Bool) : Edit := fun s => s.setHalted b
def vec (v : Option (BitVec 3)) : Edit := fun s => s.setPending v
def fault (a : Word) (op : Byte) : Edit := fun s => s.setFault (some (.unsupportedOpcode a op))
def shreg (v : Word) : Edit := fun s => s.setShiftRegister v
def shamt (v : BitVec 3) : Edit := fun s => s.setShiftAmount v
def inp (p : Byte) (v : Byte) : Edit := fun s => s.setInput (Cells.set s.input p.toNat v)
def latch (p : Byte) (v : Byte) : Edit := fun s => s.setSoundLatch (Cells.set s.soundLatch p.toNat v)
def evs (l : List SoundEvent) : Edit := fun s => s.setSoundEvents l
def cfg (f : Config → Config) : Edit := fun s => { s with config := f s.config }
def rom : Edit := cfg fun c => { c with romWritePolicy := .ignore }

def edit (l : List Edit) (s : State) : State := l.foldl (fun t f => f t) s

/-- Bytes at consecutive addresses, modulo 2^16. -/
def put : List Byte → Word → State → State
  | [], _, s => s
  | b :: t, a, s => put t (a + 1) (m a.toNat b s)

/-- The start state of a row. -/
def start (init : List Edit) (pc : Word) (code : List Byte) : State := put code pc ((edit init State.reset).setPc pc)

/-- Whether the result of a step is the given state. -/
def isNext (x : Result) (t : State) : Bool :=
  match x with
  | .next u => decide (u = t)
  | .fault _ => false
  | .refused _ => false

/-- A row: after one step exactly the listed changes, the PC and the cycles. -/
def vector (init : List Edit) (pc : Word) (code : List Byte) (changes : List Edit) (pc' : Word) (cycles : Nat) : Bool :=
  isNext (step (start init pc code)) (((edit changes (start init pc code)).setPc pc').setPacing cycles cycles)

/-- Vectors DT1 to DT9 of 95_test_vectors.md. -/
theorem test_vectors_data_transfer_1 : [
    vector [r .b 0x12, r .c 0x34] 0x0100 [0x41] [r .b 0x34] 0x0101 5,
    vector [r .h 0x20, r .l 0x00, m 0x2000 0xAB] 0x0100 [0x7E] [r .a 0xAB] 0x0101 7,
    vector [r .h 0x20, r .l 0x00, m 0x2000 0x31] 0x0100 [0x66] [r .h 0x31] 0x0101 7,
    vector [r .h 0x21, r .l 0x00, r .a 0x5A] 0x0100 [0x77] [m 0x2100 0x5A] 0x0101 7,
    vector [r .h 0x21, r .l 0x05] 0x0100 [0x74] [m 0x2105 0x21] 0x0101 7,
    vector [r .a 0x77] 0x0100 [0x7F] [] 0x0101 5,
    vector [] 0x0100 [0x3E, 0x05] [r .a 0x05] 0x0102 7,
    vector [r .h 0x24, r .l 0x00] 0x0100 [0x36, 0xFF] [m 0x2400 0xFF] 0x0102 10,
    vector [] 0x0100 [0x21, 0x34, 0x12] [r .h 0x12, r .l 0x34] 0x0103 10].all id = true := by decide +kernel

/-- Vectors DT10 to DT18 of 95_test_vectors.md. -/
theorem test_vectors_data_transfer_2 : [
    vector [] 0x0100 [0x31, 0x00, 0x24] [sp 0x2400] 0x0103 10,
    vector [m 0x2050 0x77] 0x0100 [0x3A, 0x50, 0x20] [r .a 0x77] 0x0103 13,
    vector [r .a 0x08] 0x0100 [0x32, 0x00, 0x20] [m 0x2000 0x08] 0x0103 13,
    vector [m 0x2010 0xCD, m 0x2011 0xAB] 0x0100 [0x2A, 0x10, 0x20] [r .h 0xAB, r .l 0xCD] 0x0103 16,
    vector [m 0xFFFF 0x11, m 0x0000 0x22] 0x0100 [0x2A, 0xFF, 0xFF] [r .h 0x22, r .l 0x11] 0x0103 16,
    vector [r .h 0xAB, r .l 0xCD] 0x0100 [0x22, 0x10, 0x20] [m 0x2010 0xCD, m 0x2011 0xAB] 0x0103 16,
    vector [r .h 0xAB, r .l 0xCD] 0x0100 [0x22, 0xFF, 0xFF] [m 0x0000 0xAB, m 0xFFFF 0xCD] 0x0103 16,
    vector [r .d 0x1B, r .e 0x00, m 0x1B00 0x3C] 0x0100 [0x1A] [r .a 0x3C] 0x0101 7,
    vector [r .b 0x22, r .c 0x00, r .a 0x99] 0x0100 [0x02] [m 0x2200 0x99] 0x0101 7].all id = true := by decide +kernel

/-- Vectors DT19 to DT22 of 95_test_vectors.md. -/
theorem test_vectors_data_transfer_3 : [
    vector [r .h 0x12, r .l 0x34, r .d 0xAB, r .e 0xCD] 0x0100 [0xEB] [r .d 0x12, r .e 0x34, r .h 0xAB, r .l 0xCD] 0x0101 4,
    vector [m 0x0000 0x12] 0xFFFE [0x01, 0x34] [r .b 0x12, r .c 0x34] 0x0001 10,
    vector [r .h 0x01, r .l 0x00, r .a 0x5A, rom] 0x0100 [0x77] [] 0x0101 7,
    vector [r .h 0x01, r .l 0x00, r .a 0x5A] 0x0100 [0x77] [m 0x0100 0x5A] 0x0101 7].all id = true := by decide +kernel

/-- Vectors AR1 to AR9 of 95_test_vectors.md. -/
theorem test_vectors_arithmetic_1 : [
    vector [r .a 0x6C, r .d 0x2E] 0x0100 [0x82] [r .a 0x9A, fs true, fac true, fp true] 0x0101 4,
    vector [r .a 0x80] 0x0100 [0x87] [r .a 0x00, fz true, fp true, fcy true] 0x0101 4,
    vector [r .a 0x0F, r .h 0x20, r .l 0x00, m 0x2000 0x01] 0x0100 [0x86] [r .a 0x10, fac true] 0x0101 7,
    vector [r .a 0x14] 0x0100 [0xC6, 0x42] [r .a 0x56, fp true] 0x0102 7,
    vector [r .a 0x42, r .c 0x3D, fcy false] 0x0100 [0x89] [r .a 0x7F] 0x0101 4,
    vector [r .a 0x42, r .c 0x3D, fcy true] 0x0100 [0x89] [r .a 0x80, fs true, fac true, fcy false] 0x0101 4,
    vector [r .a 0xFF, r .h 0x20, r .l 0x00, fcy true, m 0x2000 0x00] 0x0100 [0x8E] [r .a 0x00, fz true, fac true, fp true] 0x0101 7,
    vector [r .a 0x14, fcy true] 0x0100 [0xCE, 0x42] [r .a 0x57, fcy false] 0x0102 7,
    vector [r .a 0x3E, fcy true] 0x0100 [0x97] [r .a 0x00, fz true, fac true, fp true, fcy false] 0x0101 4].all id = true := by decide +kernel

/-- Vectors AR10 to AR18 of 95_test_vectors.md. -/
theorem test_vectors_arithmetic_2 : [
    vector [r .a 0x00, r .b 0x01] 0x0100 [0x90] [r .a 0xFF, fs true, fp true, fcy true] 0x0101 4,
    vector [r .a 0x10, r .h 0x20, r .l 0x00, m 0x2000 0x01] 0x0100 [0x96] [r .a 0x0F, fp true] 0x0101 7,
    vector [r .a 0x00] 0x0100 [0xD6, 0x01] [r .a 0xFF, fs true, fp true, fcy true] 0x0102 7,
    vector [r .a 0x04, r .l 0x02, fcy true] 0x0100 [0x9D] [r .a 0x01, fac true, fcy false] 0x0101 4,
    vector [r .a 0x00, r .h 0x20, r .l 0x00, fcy true, m 0x2000 0xFF] 0x0100 [0x9E] [fz true, fp true] 0x0101 7,
    vector [r .a 0x00, fcy false] 0x0100 [0xDE, 0x01] [r .a 0xFF, fs true, fp true, fcy true] 0x0102 7,
    vector [r .a 0x00, fcy true] 0x0100 [0xDE, 0x01] [r .a 0xFE, fs true] 0x0102 7,
    vector [r .c 0x99] 0x0100 [0x0C] [r .c 0x9A, fs true, fp true] 0x0101 5,
    vector [r .a 0xFF, fcy false] 0x0100 [0x3C] [r .a 0x00, fz true, fac true, fp true] 0x0101 5].all id = true := by decide +kernel

/-- Vectors AR19 to AR27 of 95_test_vectors.md. -/
theorem test_vectors_arithmetic_3 : [
    vector [r .b 0x7F, fcy true] 0x0100 [0x04] [r .b 0x80, fs true, fac true] 0x0101 5,
    vector [r .h 0x20, r .l 0x00, m 0x2000 0x0F] 0x0100 [0x34] [fac true, m 0x2000 0x10] 0x0101 10,
    vector [r .b 0x00, fcy false] 0x0100 [0x05] [r .b 0xFF, fs true, fp true] 0x0101 5,
    vector [r .a 0x01, fcy true] 0x0100 [0x3D] [r .a 0x00, fz true, fac true, fp true] 0x0101 5,
    vector [r .h 0x3A, r .l 0x7C, m 0x3A7C 0x40] 0x0100 [0x35] [fp true, m 0x3A7C 0x3F] 0x0101 10,
    vector [r .e 0x80] 0x0100 [0x1D] [r .e 0x7F] 0x0101 5,
    vector [r .d 0x38, r .e 0xFF, fz true, fcy true] 0x0100 [0x13] [r .d 0x39, r .e 0x00] 0x0101 5,
    vector [sp 0xFFFF] 0x0100 [0x33] [sp 0x0000] 0x0101 5,
    vector [r .h 0xFF, r .l 0xFF] 0x0100 [0x23] [r .h 0x00, r .l 0x00] 0x0101 5].all id = true := by decide +kernel

/-- Vectors AR28 to AR35 of 95_test_vectors.md. -/
theorem test_vectors_arithmetic_4 : [
    vector [r .h 0x98, r .l 0x00] 0x0100 [0x2B] [r .h 0x97, r .l 0xFF] 0x0101 5,
    vector [r .b 0x00, r .c 0x00] 0x0100 [0x0B] [r .b 0xFF, r .c 0xFF] 0x0101 5,
    vector [sp 0x0000] 0x0100 [0x3B] [sp 0xFFFF] 0x0101 5,
    vector [r .b 0x33, r .c 0x9F, r .h 0xA1, r .l 0x7B, fcy true] 0x0100 [0x09] [r .h 0xD5, r .l 0x1A, fcy false] 0x0101 10,
    vector [r .h 0x80, r .l 0x01, fz true, fs true] 0x0100 [0x29] [r .h 0x00, r .l 0x02, fcy true] 0x0101 10,
    vector [r .h 0x00, r .l 0x01, sp 0xFFFF] 0x0100 [0x39] [r .l 0x00, fcy true] 0x0101 10,
    vector [r .h 0x12, r .l 0x34, r .d 0x00, r .e 0x00, fcy true] 0x0100 [0x19] [fcy false] 0x0101 10,
    vector [r .h 0x03, r .l 0x00, rom, m 0x0300 0xFF] 0x0400 [0x34] [fz true, fac true, fp true] 0x0401 10].all id = true := by decide +kernel

/-- Vectors DA1 to DA9 of 95_test_vectors.md. -/
theorem test_vectors_daa_1 : [
    vector [r .a 0x9A, fcy false, fac false] 0x0100 [0x27] [r .a 0x00, fz true, fac true, fp true, fcy true] 0x0101 4,
    vector [r .a 0x9B, fcy false, fac false] 0x0100 [0x27] [r .a 0x01, fac true, fcy true] 0x0101 4,
    vector [r .a 0xFA, fcy false, fac false] 0x0100 [0x27] [r .a 0x60, fac true, fp true, fcy true] 0x0101 4,
    vector [r .a 0x00, fcy true, fac true] 0x0100 [0x27] [r .a 0x66, fac false, fp true] 0x0101 4,
    vector [r .a 0x0A, fcy false, fac false] 0x0100 [0x27] [r .a 0x10, fac true] 0x0101 4,
    vector [r .a 0x10, fcy true, fac false] 0x0100 [0x27] [r .a 0x70] 0x0101 4,
    vector [r .a 0x7D, fcy false, fac false] 0x0100 [0x27] [r .a 0x83, fs true, fac true] 0x0101 4,
    vector [r .a 0x32, fcy true, fac true] 0x0100 [0x27] [r .a 0x98, fs true, fac false] 0x0101 4,
    vector [r .a 0x00, fcy false, fac false] 0x0100 [0x27] [fz true, fp true] 0x0101 4].all id = true := by decide +kernel

/-- Vectors DA10 to DA17 of 95_test_vectors.md. -/
theorem test_vectors_daa_2 : [
    vector [r .a 0x99, fcy false, fac false] 0x0100 [0x27] [fs true, fp true] 0x0101 4,
    vector [r .a 0x45, fcy false, fac false] 0x0100 [0x27] [] 0x0101 4,
    vector [r .a 0x0F, fcy false, fac true] 0x0100 [0x27] [r .a 0x15] 0x0101 4,
    vector [r .a 0xA0, fcy false, fac false] 0x0100 [0x27] [r .a 0x00, fz true, fp true, fcy true] 0x0101 4,
    vector [r .a 0x90, fcy false, fac true] 0x0100 [0x27] [r .a 0x96, fs true, fac false, fp true] 0x0101 4,
    vector [r .a 0xFF, fcy true, fac true] 0x0100 [0x27] [r .a 0x65, fp true] 0x0101 4,
    vector [r .a 0x66, fcy false, fac true] 0x0100 [0x27] [r .a 0x6C, fac false, fp true] 0x0101 4,
    vector [r .a 0x99, fcy true, fac false] 0x0100 [0x27] [r .a 0xF9, fs true, fp true] 0x0101 4].all id = true := by decide +kernel

/-- Vectors LG1 to LG9 of 95_test_vectors.md. -/
theorem test_vectors_logical_1 : [
    vector [r .a 0xFC, r .c 0x0F, fcy true, fac true] 0x0100 [0xA1] [r .a 0x0C, fac false, fp true, fcy false] 0x0101 4,
    vector [r .a 0x80, fcy true, fac true] 0x0100 [0xA7] [fs true, fac false, fcy false] 0x0101 4,
    vector [r .a 0xF0, r .h 0x20, r .l 0x00, fcy true, m 0x2000 0x0F] 0x0100 [0xA6] [r .a 0x00, fz true, fp true, fcy false] 0x0101 7,
    vector [r .a 0x3A, fac true] 0x0100 [0xE6, 0x0F] [r .a 0x0A, fac false, fp true] 0x0102 7,
    vector [r .a 0x08] 0x0100 [0xE6, 0x08] [] 0x0102 7,
    vector [r .a 0xFF, r .b 0x0F, fcy true] 0x0100 [0xA8] [r .a 0xF0, fs true, fp true, fcy false] 0x0101 4,
    vector [r .a 0x5A, fcy true, fac true, fs true] 0x0100 [0xAF] [r .a 0x00, fs false, fz true, fac false, fp true, fcy false] 0x0101 4,
    vector [r .a 0x5C, r .h 0x20, r .l 0x00, m 0x2000 0x78] 0x0100 [0xAE] [r .a 0x24, fp true] 0x0101 7,
    vector [r .a 0x3B] 0x0100 [0xEE, 0x81] [r .a 0xBA, fs true] 0x0102 7].all id = true := by decide +kernel

/-- Vectors LG10 to LG18 of 95_test_vectors.md. -/
theorem test_vectors_logical_2 : [
    vector [r .a 0x33, r .c 0x0F, fcy true] 0x0100 [0xB1] [r .a 0x3F, fp true, fcy false] 0x0101 4,
    vector [r .a 0x00, r .h 0x20, r .l 0x00, m 0x2000 0x80] 0x0100 [0xB6] [r .a 0x80, fs true] 0x0101 7,
    vector [r .a 0xB5] 0x0100 [0xF6, 0x0F] [r .a 0xBF, fs true] 0x0102 7,
    vector [r .a 0x00, fcy true, fac true] 0x0100 [0xB7] [fz true, fac false, fp true, fcy false] 0x0101 4,
    vector [r .a 0x0A, r .e 0x05] 0x0100 [0xBB] [fac true, fp true] 0x0101 4,
    vector [r .a 0x02, r .e 0x05] 0x0100 [0xBB] [fs true, fcy true] 0x0101 4,
    vector [r .a 0x99, fcy true] 0x0100 [0xBF] [fz true, fac true, fp true, fcy false] 0x0101 4,
    vector [r .a 0x40, r .h 0x20, r .l 0x00, m 0x2000 0x40] 0x0100 [0xBE] [fz true, fac true, fp true] 0x0101 7,
    vector [r .a 0x4A] 0x0100 [0xFE, 0x40] [fac true, fp true] 0x0102 7].all id = true := by decide +kernel

/-- Vectors LG19 to LG27 of 95_test_vectors.md. -/
theorem test_vectors_logical_3 : [
    vector [r .a 0x00, fcy true] 0x0100 [0xFE, 0x00] [fz true, fac true, fp true, fcy false] 0x0102 7,
    vector [r .a 0x7F] 0x0100 [0xFE, 0x80] [fs true, fac true, fp true, fcy true] 0x0102 7,
    vector [r .a 0xF2] 0x0100 [0x07] [r .a 0xE5, fcy true] 0x0101 4,
    vector [r .a 0x00, fcy true] 0x0100 [0x07] [fcy false] 0x0101 4,
    vector [r .a 0xF2, fcy true] 0x0100 [0x0F] [r .a 0x79, fcy false] 0x0101 4,
    vector [r .a 0x01] 0x0100 [0x0F] [r .a 0x80, fcy true] 0x0101 4,
    vector [r .a 0xB5, fcy false] 0x0100 [0x17] [r .a 0x6A, fcy true] 0x0101 4,
    vector [r .a 0x80, fcy true] 0x0100 [0x17] [r .a 0x01] 0x0101 4,
    vector [r .a 0x6A, fcy true] 0x0100 [0x1F] [r .a 0xB5, fcy false] 0x0101 4].all id = true := by decide +kernel

/-- Vectors LG28 to LG33 of 95_test_vectors.md. -/
theorem test_vectors_logical_4 : [
    vector [r .a 0x01, fcy false] 0x0100 [0x1F] [r .a 0x00, fcy true] 0x0101 4,
    vector [r .a 0x51, fz true, fcy true] 0x0100 [0x2F] [r .a 0xAE] 0x0101 4,
    vector [fcy true] 0x0100 [0x3F] [fcy false] 0x0101 4,
    vector [fcy false] 0x0100 [0x3F] [fcy true] 0x0101 4,
    vector [fcy false] 0x0100 [0x37] [fcy true] 0x0101 4,
    vector [fcy true] 0x0100 [0x37] [] 0x0101 4].all id = true := by decide +kernel

/-- Vectors BR1 to BR9 of 95_test_vectors.md. -/
theorem test_vectors_branch_1 : [
    vector [] 0x0000 [0xC3, 0xD4, 0x18] [] 0x18D4 10,
    vector [fz false] 0x0100 [0xC2, 0x00, 0x02] [] 0x0200 10,
    vector [fz true] 0x0100 [0xC2, 0x00, 0x02] [] 0x0103 10,
    vector [fz false] 0x0100 [0xCA, 0x00, 0x02] [] 0x0103 10,
    vector [fz true] 0x0100 [0xCA, 0x00, 0x02] [] 0x0200 10,
    vector [fcy false] 0x0100 [0xD2, 0x00, 0x02] [] 0x0200 10,
    vector [fcy true] 0x0100 [0xD2, 0x00, 0x02] [] 0x0103 10,
    vector [fcy false] 0x0100 [0xDA, 0x00, 0x02] [] 0x0103 10,
    vector [fcy true] 0x0100 [0xDA, 0x00, 0x02] [] 0x0200 10].all id = true := by decide +kernel

/-- Vectors BR10 to BR18 of 95_test_vectors.md. -/
theorem test_vectors_branch_2 : [
    vector [fp false] 0x0100 [0xE2, 0x00, 0x02] [] 0x0200 10,
    vector [fp true] 0x0100 [0xE2, 0x00, 0x02] [] 0x0103 10,
    vector [fp false] 0x0100 [0xEA, 0x00, 0x02] [] 0x0103 10,
    vector [fp true] 0x0100 [0xEA, 0x00, 0x02] [] 0x0200 10,
    vector [fs false] 0x0100 [0xF2, 0x00, 0x02] [] 0x0200 10,
    vector [fs true] 0x0100 [0xF2, 0x00, 0x02] [] 0x0103 10,
    vector [fs false] 0x0100 [0xFA, 0x00, 0x02] [] 0x0103 10,
    vector [fs true] 0x0100 [0xFA, 0x00, 0x02] [] 0x0200 10,
    vector [sp 0x2400] 0x0010 [0xCD, 0x00, 0x03] [sp 0x23FE, m 0x23FE 0x13] 0x0300 17].all id = true := by decide +kernel

/-- Vectors BR19 to BR27 of 95_test_vectors.md. -/
theorem test_vectors_branch_3 : [
    vector [sp 0x0001] 0x0010 [0xCD, 0x00, 0x03] [sp 0xFFFF, m 0xFFFF 0x13] 0x0300 17,
    vector [sp 0x2400, fcy true] 0x0020 [0xDC, 0x00, 0x04] [sp 0x23FE, m 0x23FE 0x23] 0x0400 17,
    vector [sp 0x2400, fcy false] 0x0020 [0xDC, 0x00, 0x04] [] 0x0023 11,
    vector [sp 0x2400, fz false] 0x0020 [0xC4, 0x00, 0x04] [sp 0x23FE, m 0x23FE 0x23] 0x0400 17,
    vector [sp 0x2400, fs false] 0x0020 [0xFC, 0x00, 0x04] [] 0x0023 11,
    vector [sp 0x23FE, m 0x23FE 0x13, m 0x23FF 0x00] 0x0300 [0xC9] [sp 0x2400] 0x0013 10,
    vector [sp 0xFFFF, m 0xFFFF 0x34, m 0x0000 0x12] 0x0300 [0xC9] [sp 0x0001] 0x1234 10,
    vector [sp 0x23FE, fz true, m 0x23FE 0x13, m 0x23FF 0x00] 0x0300 [0xC8] [sp 0x2400] 0x0013 11,
    vector [sp 0x23FE, fz false, m 0x23FE 0x13, m 0x23FF 0x00] 0x0300 [0xC8] [] 0x0301 5].all id = true := by decide +kernel

/-- Vectors BR28 to BR32 of 95_test_vectors.md. -/
theorem test_vectors_branch_4 : [
    vector [sp 0x23FE, fp true, m 0x23FE 0x13, m 0x23FF 0x00] 0x0300 [0xE8] [sp 0x2400] 0x0013 11,
    vector [sp 0x2400] 0x0150 [0xD7] [sp 0x23FE, m 0x23FE 0x51, m 0x23FF 0x01] 0x0010 11,
    vector [sp 0x2400] 0x0150 [0xFF] [sp 0x23FE, m 0x23FE 0x51, m 0x23FF 0x01] 0x0038 11,
    vector [sp 0x2400] 0xFFFF [0xC7] [sp 0x23FE] 0x0000 11,
    vector [r .h 0x41, r .l 0x3E] 0x0100 [0xE9] [] 0x413E 5].all id = true := by decide +kernel

/-- Vectors SK1 to SK9 of 95_test_vectors.md. -/
theorem test_vectors_stack_1 : [
    vector [r .d 0x8F, r .e 0x9D, sp 0x3A2C] 0x0100 [0xD5] [sp 0x3A2A, m 0x3A2A 0x9D, m 0x3A2B 0x8F] 0x0101 11,
    vector [sp 0x1239, m 0x1239 0x3D, m 0x123A 0x93] 0x0100 [0xE1] [r .h 0x93, r .l 0x3D, sp 0x123B] 0x0101 10,
    vector [r .a 0x1F, fz true, fp true, fcy true, sp 0x502A] 0x0100 [0xF5] [sp 0x5028, m 0x5028 0x47, m 0x5029 0x1F] 0x0101 11,
    vector [r .a 0x00, sp 0x3000] 0x0100 [0xF5] [sp 0x2FFE, m 0x2FFE 0x02] 0x0101 11,
    vector [r .a 0xAA, fs true, fz true, fac true, fp true, fcy true, sp 0x3000] 0x0100 [0xF5] [sp 0x2FFE, m 0x2FFE 0xD7, m 0x2FFF 0xAA] 0x0101 11,
    vector [sp 0x2C00, m 0x2C00 0xC3, m 0x2C01 0xFF] 0x0100 [0xF1] [r .a 0xFF, fs true, fz true, fcy true, sp 0x2C02] 0x0101 10,
    vector [sp 0x2C00, m 0x2C00 0xFF, m 0x2C01 0x01] 0x0100 [0xF1] [r .a 0x01, fs true, fz true, fac true, fp true, fcy true, sp 0x2C02] 0x0101 10,
    vector [sp 0x2C00, r .a 0x77, fs true, fz true, fac true, fp true, fcy true, m 0x2C00 0x00, m 0x2C01 0x02] 0x0100 [0xF1] [r .a 0x02, fs false, fz false, fac false, fp false, fcy false, sp 0x2C02] 0x0101 10,
    vector [sp 0x2C00, m 0x2C00 0x28, m 0x2C01 0x00] 0x0100 [0xF1] [sp 0x2C02] 0x0101 10].all id = true := by decide +kernel

/-- Vectors SK10 to SK15 of 95_test_vectors.md. -/
theorem test_vectors_stack_2 : [
    vector [sp 0xFFFF, m 0xFFFF 0x11, m 0x0000 0x22] 0x0100 [0xC1] [r .b 0x22, r .c 0x11, sp 0x0001] 0x0101 10,
    vector [r .h 0x12, r .l 0x34, sp 0x0000] 0x0100 [0xE5] [sp 0xFFFE, m 0xFFFE 0x34, m 0xFFFF 0x12] 0x0101 11,
    vector [sp 0x10AD, r .h 0x0B, r .l 0x3C, m 0x10AD 0xF0, m 0x10AE 0x0D] 0x0100 [0xE3] [r .h 0x0D, r .l 0xF0, m 0x10AD 0x3C, m 0x10AE 0x0B] 0x0101 18,
    vector [r .h 0x50, r .l 0x6C] 0x0100 [0xF9] [sp 0x506C] 0x0101 5,
    vector [r .b 0x12, r .c 0x34, sp 0x1000, rom] 0x2000 [0xC5] [sp 0x0FFE] 0x2001 11,
    vector [r .b 0x12, r .c 0x34, sp 0x2001, rom] 0x2000 [0xC5] [sp 0x1FFF, m 0x2000 0x12] 0x2001 11].all id = true := by decide +kernel

/-- Vectors IO1 to IO9 of 95_test_vectors.md. -/
theorem test_vectors_port_1 : [
    vector [shreg 0x00FF, shamt 3, r .a 0xEE] 0x0100 [0xDB, 0x03] [r .a 0x07] 0x0102 10,
    vector [shreg 0xABCD, shamt 0] 0x0100 [0xDB, 0x03] [r .a 0xAB] 0x0102 10,
    vector [shreg 0xABCD, shamt 7] 0x0100 [0xDB, 0x03] [r .a 0xE6] 0x0102 10,
    vector [shreg 0xABCD, shamt 4] 0x0100 [0xDB, 0x03] [r .a 0xBC] 0x0102 10,
    vector [r .a 0xFF, inp 1 0x09] 0x0100 [0xDB, 0x01] [r .a 0x09] 0x0102 10,
    vector [r .a 0xFF, inp 0 0x0E, inp 1 0x09] 0x0100 [0xDB, 0x00] [r .a 0x0E] 0x0102 10,
    vector [r .a 0xFF, inp 1 0x09, inp 2 0x83] 0x0100 [0xDB, 0x02] [r .a 0x83] 0x0102 10,
    vector [r .a 0xFF] 0x0100 [0xDB, 0x09] [r .a 0x00] 0x0102 10,
    vector [r .a 0xFF, shreg 0xABCD] 0x0100 [0xDB, 0x04] [r .a 0x00] 0x0102 10].all id = true := by decide +kernel

/-- Vectors IO10 to IO18 of 95_test_vectors.md. -/
theorem test_vectors_port_2 : [
    vector [r .a 0x0B] 0x0100 [0xD3, 0x02] [shamt 3] 0x0102 10,
    vector [r .a 0xF8, shamt 5] 0x0100 [0xD3, 0x02] [shamt 0] 0x0102 10,
    vector [r .a 0x12, shreg 0xABCD] 0x0100 [0xD3, 0x04] [shreg 0x12AB] 0x0102 10,
    vector [r .a 0x35, latch 3 0x02] 0x0100 [0xD3, 0x03] [latch 3 0x05, evs [⟨3, 0⟩, ⟨3, 2⟩]] 0x0102 10,
    vector [r .a 0x30] 0x0100 [0xD3, 0x05] [latch 5 0x10, evs [⟨5, 4⟩]] 0x0102 10,
    vector [r .a 0x01, latch 3 0x01] 0x0100 [0xD3, 0x03] [] 0x0102 10,
    vector [r .a 0x00, latch 3 0x0F] 0x0100 [0xD3, 0x03] [latch 3 0x00] 0x0102 10,
    vector [r .a 0xFF] 0x0100 [0xD3, 0x05] [latch 5 0x1F, evs [⟨5, 0⟩, ⟨5, 1⟩, ⟨5, 2⟩, ⟨5, 3⟩, ⟨5, 4⟩]] 0x0102 10,
    vector [r .a 0xFF] 0x0100 [0xD3, 0x06] [] 0x0102 10].all id = true := by decide +kernel

/-- Vectors IO19 to IO19 of 95_test_vectors.md. -/
theorem test_vectors_port_3 : [
    vector [r .a 0xFF, inp 1 0x09] 0x0100 [0xD3, 0x01] [] 0x0102 10].all id = true := by decide +kernel

/-- Vectors CT1 to CT9 of 95_test_vectors.md. -/
theorem test_vectors_control_1 : [
    vector [] 0x0100 [0xFB] [ie true] 0x0101 4,
    vector [ie true] 0x0100 [0xF3] [ie false] 0x0101 4,
    vector [] 0x0007 [0x76] [halt true] 0x0008 7,
    vector [r .a 0x12, fs true, fcy true] 0x0100 [0x00] [] 0x0101 4,
    vector [] 0xFFFF [0x00] [] 0x0000 4,
    vector [r .a 0x12] 0x0100 [0x08] [fault 0x0100 0x08] 0x0100 0,
    vector [] 0x0100 [0xCB, 0x00, 0x02] [fault 0x0100 0xCB] 0x0100 0,
    vector [] 0x0100 [0xDD, 0x00, 0x02] [fault 0x0100 0xDD] 0x0100 0,
    vector [halt true] 0x0100 [0x3C] [] 0x0100 4].all id = true := by decide +kernel

/-- Vectors CT10 to CT12 of 95_test_vectors.md. -/
theorem test_vectors_control_2 : [
    vector [sp 0x2400, ie true, vec (some 1)] 0x1234 [0x3C] [sp 0x23FE, ie false, vec none, m 0x23FE 0x34, m 0x23FF 0x12] 0x0008 11,
    vector [sp 0x2400, ie true, vec (some 2), halt true] 0x0008 [0x3C] [sp 0x23FE, ie false, halt false, vec none, m 0x23FE 0x08] 0x0010 11,
    vector [sp 0x0001, ie true, vec (some 7)] 0xFFFF [0x3C] [sp 0xFFFF, ie false, vec none, m 0x0000 0xFF, m 0xFFFF 0xFF] 0x0038 11].all id = true := by decide +kernel
/-! ## The boundary values of add8 and sub8 -/

/-- A row: the result byte and the flags S, Z, AC, P, CY. -/
def gives (x : AluResult) (v : Byte) (f : List Nat) : Bool :=
  x.value == v && [x.flags.s, x.flags.z, x.flags.ac, x.flags.p, x.flags.cy].map Bool.toNat == f

/-- Rows B1 to B15 of 95_test_vectors.md (S8). -/
theorem test_boundary_1 : [
    gives (add8 0x00 0x00 false) 0x00 [0, 1, 0, 1, 0],
    gives (add8 0x00 0x01 false) 0x01 [0, 0, 0, 0, 0],
    gives (add8 0x00 0x7F false) 0x7F [0, 0, 0, 0, 0],
    gives (add8 0x00 0x80 false) 0x80 [1, 0, 0, 0, 0],
    gives (add8 0x00 0xFF false) 0xFF [1, 0, 0, 1, 0],
    gives (add8 0x01 0x01 false) 0x02 [0, 0, 0, 0, 0],
    gives (add8 0x01 0x7F false) 0x80 [1, 0, 1, 0, 0],
    gives (add8 0x01 0x80 false) 0x81 [1, 0, 0, 1, 0],
    gives (add8 0x01 0xFF false) 0x00 [0, 1, 1, 1, 1],
    gives (add8 0x7F 0x7F false) 0xFE [1, 0, 1, 0, 0],
    gives (add8 0x7F 0x80 false) 0xFF [1, 0, 0, 1, 0],
    gives (add8 0x7F 0xFF false) 0x7E [0, 0, 1, 1, 1],
    gives (add8 0x80 0x80 false) 0x00 [0, 1, 0, 1, 1],
    gives (add8 0x80 0xFF false) 0x7F [0, 0, 0, 0, 1],
    gives (add8 0xFF 0xFF false) 0xFE [1, 0, 1, 0, 1]].all id = true := by decide +kernel

/-- Rows B16 to B30 of 95_test_vectors.md (S8). -/
theorem test_boundary_2 : [
    gives (add8 0x12 0x34 false) 0x46 [0, 0, 0, 0, 0],
    gives (add8 0xF0 0x20 false) 0x10 [0, 0, 0, 0, 1],
    gives (add8 0x0F 0x01 false) 0x10 [0, 0, 1, 0, 0],
    gives (add8 0xFF 0x01 false) 0x00 [0, 1, 1, 1, 1],
    gives (add8 0x00 0x00 true) 0x01 [0, 0, 0, 0, 0],
    gives (add8 0x7F 0x00 true) 0x80 [1, 0, 1, 0, 0],
    gives (add8 0xFF 0x00 true) 0x00 [0, 1, 1, 1, 1],
    gives (add8 0xFF 0xFF true) 0xFF [1, 0, 1, 1, 1],
    gives (add8 0x0F 0x00 true) 0x10 [0, 0, 1, 0, 0],
    gives (add8 0x80 0x7F true) 0x00 [0, 1, 1, 1, 1],
    gives (sub8 0x00 0x00 false) 0x00 [0, 1, 1, 1, 0],
    gives (sub8 0x00 0x01 false) 0xFF [1, 0, 0, 1, 1],
    gives (sub8 0x00 0x7F false) 0x81 [1, 0, 0, 1, 1],
    gives (sub8 0x00 0x80 false) 0x80 [1, 0, 1, 0, 1],
    gives (sub8 0x00 0xFF false) 0x01 [0, 0, 0, 0, 1]].all id = true := by decide +kernel

/-- Rows B31 to B45 of 95_test_vectors.md (S8). -/
theorem test_boundary_3 : [
    gives (sub8 0x01 0x00 false) 0x01 [0, 0, 1, 0, 0],
    gives (sub8 0x01 0x01 false) 0x00 [0, 1, 1, 1, 0],
    gives (sub8 0x01 0x7F false) 0x82 [1, 0, 0, 1, 1],
    gives (sub8 0x01 0x80 false) 0x81 [1, 0, 1, 1, 1],
    gives (sub8 0x01 0xFF false) 0x02 [0, 0, 0, 0, 1],
    gives (sub8 0x7F 0x00 false) 0x7F [0, 0, 1, 0, 0],
    gives (sub8 0x7F 0x01 false) 0x7E [0, 0, 1, 1, 0],
    gives (sub8 0x7F 0x7F false) 0x00 [0, 1, 1, 1, 0],
    gives (sub8 0x7F 0x80 false) 0xFF [1, 0, 1, 1, 1],
    gives (sub8 0x7F 0xFF false) 0x80 [1, 0, 1, 0, 1],
    gives (sub8 0x80 0x00 false) 0x80 [1, 0, 1, 0, 0],
    gives (sub8 0x80 0x01 false) 0x7F [0, 0, 0, 0, 0],
    gives (sub8 0x80 0x7F false) 0x01 [0, 0, 0, 0, 0],
    gives (sub8 0x80 0x80 false) 0x00 [0, 1, 1, 1, 0],
    gives (sub8 0x80 0xFF false) 0x81 [1, 0, 0, 1, 1]].all id = true := by decide +kernel

/-- Rows B46 to B60 of 95_test_vectors.md (S8). -/
theorem test_boundary_4 : [
    gives (sub8 0xFF 0x00 false) 0xFF [1, 0, 1, 1, 0],
    gives (sub8 0xFF 0x01 false) 0xFE [1, 0, 1, 0, 0],
    gives (sub8 0xFF 0x7F false) 0x80 [1, 0, 1, 0, 0],
    gives (sub8 0xFF 0x80 false) 0x7F [0, 0, 1, 0, 0],
    gives (sub8 0xFF 0xFF false) 0x00 [0, 1, 1, 1, 0],
    gives (sub8 0x34 0x12 false) 0x22 [0, 0, 1, 1, 0],
    gives (sub8 0x10 0x20 false) 0xF0 [1, 0, 1, 1, 1],
    gives (sub8 0x10 0x01 false) 0x0F [0, 0, 0, 1, 0],
    gives (sub8 0x21 0x32 false) 0xEF [1, 0, 0, 0, 1],
    gives (sub8 0x00 0x00 true) 0xFF [1, 0, 0, 1, 1],
    gives (sub8 0x00 0xFF true) 0x00 [0, 1, 0, 1, 1],
    gives (sub8 0x80 0x7F true) 0x00 [0, 1, 0, 1, 0],
    gives (sub8 0x10 0x0F true) 0x00 [0, 1, 0, 1, 0],
    gives (sub8 0x01 0x00 true) 0x00 [0, 1, 1, 1, 0],
    gives (sub8 0xFF 0xFF true) 0xFF [1, 0, 0, 1, 1]].all id = true := by decide +kernel
/-! ## Single steps of the programs P5, P7 and P8, and of R103, R276 -/

/-- The budget of the programs P5, P7, P8. -/
def budget (n : Nat) : Edit := cfg fun c => { c with halfBudget := n }

/-- P5, iteration 7: the mid-frame event with IE = 1. -/
theorem test_mid_frame_event :
    isNext (step ((start [sp 0x2400, ie true, budget 50] 0x0026 [0xC3, 0x26, 0x00]).setPacing 43 43))
      (((start [sp 0x2400, ie true, budget 50, vec (some 1)] 0x0026 [0xC3, 0x26, 0x00]).setPacing 53 0).setPhase .second) =
        true := by decide +kernel

/-- P8, iteration 2: the request is lost with IE = 0; the half counter has reached the budget exactly. -/
theorem test_mid_frame_request_lost :
    isNext (step ((start [budget 20] 0x0020 [0x31, 0x00, 0x24]).setPacing 10 10))
      ((((start [budget 20, sp 0x2400] 0x0020 [0x31, 0x00, 0x24]).setPc 0x0023).setPacing 20 0).setPhase .second) =
        true := by decide +kernel

/-- P5, iteration 13, with an input sample given and a sound event to drain: the end-of-frame event and the yield. -/
theorem test_end_of_frame_and_yield :
    isNext (step ((((start [sp 0x2400, ie true, budget 50, evs [⟨3, 0⟩]] 0x0026 [0xC3, 0x26, 0x00]).setPacing 93 40).setPhase
        .second).setHost [⟨false, [(1, 0x09)]⟩] 0))
      (((((start [sp 0x2400, ie true, budget 50, inp 1 0x09, vec (some 2)] 0x0026 [0xC3, 0x26, 0x00]).setPacing 103 0).setPhase
        .first).setHost [] 1).setSoundOutput [⟨3, 0⟩]) = true := by decide +kernel

/-- R275, R287, R290: an OUT in the iteration that ends the frame: its event goes to the audio collaborator too, after the one that was
queued, and after what was handed over before; the queue is empty. -/
theorem test_out_at_end_of_frame_is_delivered :
    (match step (((((start [r .a 0x05, budget 50, evs [⟨3, 1⟩]] 0x0026 [0xD3, 0x05]).setPacing 93 40).setPhase .second).setHost
        [⟨false, []⟩] 0).setSoundOutput [⟨5, 4⟩]) with
      | .next t => decide (t.soundOutput = [⟨5, 4⟩, ⟨3, 1⟩, ⟨5, 0⟩, ⟨5, 2⟩] ∧ t.soundEvents = [])
      | _ => false) = true := by decide +kernel

/-- R276: an exit request at the yield stops the run, and no step follows. -/
theorem test_exit_request_stops_the_run :
    (match step ((((start [budget 50] 0x0026 [0xC3, 0x26, 0x00]).setPacing 93 40).setPhase .second).setHost [⟨true, []⟩] 0) with
      | .next t => decide (t.run = .stopped) && (match step t with | .fault e => decide (e = .runStopped) | _ => false)
      | _ => false) = true := by decide +kernel

/-- P9 with `ModeledOpcodes` reduced: a documented byte left out of the set faults like an undocumented one (R103, R241). -/
theorem test_byte_outside_modeled_opcodes_faults :
    isNext (step (start [cfg fun c => { c with disabledOpcodes := [0x3C] }] 0x0100 [0x3C]))
      (edit [fault 0x0100 0x3C] (start [cfg fun c => { c with disabledOpcodes := [0x3C] }] 0x0100 [0x3C])) = true := by
  decide +kernel

/-- R251: with a vector pending an unsupported byte at the PC is not seen in that step. -/
theorem test_entry_before_fault :
    isNext (step (start [sp 0x2400, ie true, vec (some 1)] 0x1234 [0x08]))
      ((edit [sp 0x23FE, m 0x23FF 0x12, m 0x23FE 0x34] (start [] 0x1234 [0x08])).setPc 0x0008 |>.setPacing 11 11) = true := by
  decide +kernel

/-- The word 0x34 (INR M) placed after reset is what the next step runs, from a halted and stopped state too (log 5). -/
theorem test_placed_word_runs :
    (match step (State.withFetchWord { State.reset with halted := true, run := .stopped } 8 0x3C) with
      | .next t => t.regs.a == 1 && t.pc == 1 | _ => false) = true := by decide +kernel

/-! ## What the hypotheses of the obligations are met by -/

/-- A state that fetches: the byte 0x3C (INR A) at 0x0100. -/
def fetcher : State := start [sp 0x2400] 0x0100 [0x3C]

/-- A state with a vector pending, and one that is halted. -/
def entering : State := start [sp 0x2400, ie true, vec (some 7)] 0x1234 [0x3C]
def idling : State := start [halt true] 0x0100 [0x3C]

theorem test_meets_DecodeOfEncodeIsSame :
    (Instr.unsupported 0xFD).wellFormed = true ∧ (Instr.lxiSp 0xFFFF).wellFormed = true := by decide
theorem test_meets_DecodeUnsupported :
    (0x41 : Byte) ∈ [(0x41 : Byte)] ∧ (0x40 : Byte) ∉ [(0x41 : Byte)] ∧ (0x08 : Byte) ∈ unsupportedBytes ∧
      (0x00 : Byte) ∉ unsupportedBytes ∧ decodeBytes 0x08 1 2 = .unsupported 0x08 := by decide
theorem test_meets_PlacedWordIsFetched :
    decodeTableWord 24 0x123421 = some (.lxiH 0x1234) ∧ decodeTableWord 8 0x08 = some (.unsupported 0x08) := by decide
theorem test_meets_MovCopies :
    Instr.movBC.form = .mov (.reg .b) (.reg .c) ∧ Instr.movAA.form = .mov (.reg .a) (.reg .a) ∧
      Instr.movHM.form = .mov (.reg .h) .mem ∧ Instr.movMA.form = .mov .mem (.reg .a) := by decide
theorem test_meets_MviLoadsImmediate :
    (Instr.mviB 0).form = .mvi (.reg .b) 0 ∧ (Instr.mviA 0xFF).form = .mvi (.reg .a) 0xFF := by decide
theorem test_meets_LxiLoadsPair :
    (Instr.lxiB 0x1234).form = .lxi .bc (word16 0x12 0x34) ∧ (Instr.lxiD 0).form = .lxi .de (word16 0 0) ∧
      (Instr.lxiH 0xFFFF).form = .lxi .hl (word16 0xFF 0xFF) ∧ (Instr.lxiSp 0x2400).form = .lxi .sp (word16 0x24 0) := by decide
theorem test_meets_AddInstructions :
    Instr.addB.form = .alu .add (.reg .b) ∧ Instr.addM.form = .alu .add .mem ∧ Instr.adcA.form = .alu .adc (.reg .a) ∧
      Instr.adcM.form = .alu .adc .mem := by decide
theorem test_meets_SubInstructions :
    Instr.subB.form = .alu .sub (.reg .b) ∧ Instr.subM.form = .alu .sub .mem ∧ Instr.sbbA.form = .alu .sbb (.reg .a) ∧
      Instr.sbbM.form = .alu .sbb .mem := by decide
theorem test_meets_IncrementDecrement :
    Instr.inrA.form = .inr (.reg .a) ∧ Instr.inrM.form = .inr .mem ∧ Instr.dcrB.form = .dcr (.reg .b) ∧
      Instr.dcrM.form = .dcr .mem := by decide
theorem test_meets_PairArithmetic :
    Instr.inxB.form = .inx .bc ∧ Instr.inxSp.form = .inx .sp ∧ Instr.dcxB.form = .dcx .bc ∧ Instr.dcxSp.form = .dcx .sp ∧
      Instr.dadD.form = .dad .de ∧ Instr.dadH.form = .dad .hl ∧ Instr.dadSp.form = .dad .sp := by decide
theorem test_meets_DaaCorrectsDecimalSum : 199 = (99 : Fin 100).val + (99 : Fin 100).val + (if true then 1 else 0) := by decide
theorem test_meets_LogicInstructions :
    Instr.anaB.form = .alu .ana (.reg .b) ∧ Instr.anaM.form = .alu .ana .mem ∧ Instr.xraA.form = .alu .xra (.reg .a) ∧
      Instr.xraM.form = .alu .xra .mem ∧ Instr.oraA.form = .alu .ora (.reg .a) ∧ Instr.oraM.form = .alu .ora .mem := by decide
theorem test_meets_CompareInstructions :
    Instr.cmpB.form = .alu .cmp (.reg .b) ∧ Instr.cmpA.form = .alu .cmp (.reg .a) ∧ Instr.cmpM.form = .alu .cmp .mem := by decide
theorem test_meets_JumpInstructions :
    (Instr.jnz 0xFFFF).form = .jcc .nz 0xFFFF ∧ (Instr.jm 0).form = .jcc .m 0 ∧
      condHolds .nz State.reset.flags = true ∧ condHolds .m State.reset.flags = false := by decide
theorem test_meets_CallInstructions :
    (Instr.cnz 0xFFFF).form = .ccc .nz 0xFFFF ∧ (Instr.cm 0).form = .ccc .m 0 ∧ Instr.rst0.form = .rst 0 ∧
      Instr.rst7.form = .rst 7 := by decide
theorem test_meets_ReturnInstructions : Instr.rnz.form = .rcc .nz ∧ Instr.rm.form = .rcc .m := by decide
theorem test_meets_PushPopPairs :
    Instr.pushB.form = .push .bc ∧ Instr.pushD.form = .push .de ∧ Instr.pushH.form = .push .hl ∧
      Instr.popB.form = .pop .bc ∧ Instr.popD.form = .pop .de ∧ Instr.popH.form = .pop .hl := by decide
/-- The lowest stack pointer from which a push under `ignore` stores both bytes; one lower stores one, two lower none. -/
theorem test_meets_PopAfterPush :
    let s := start [sp 0x2002, rom] 0 []
    dropsWrite s.config (s.sp - 1) = false ∧ dropsWrite s.config (s.sp - 2) = false ∧
      dropsWrite s.config (s.sp - 3) = true := by decide
/-- The last address of the program region and the first above it, under both policies. -/
theorem test_meets_MemoryReadWrite :
    ((start [rom] 0 []).write8 0x1FFF 1).read8 0x1FFF = 0 ∧ ((start [rom] 0 []).write8 0x2000 1).read8 0x2000 = 1 ∧
      ((start [] 0 []).write8 0x1FFF 1).read8 0x1FFF = 1 ∧ ((start [] 0 []).write16 0xFFFF 0x1234).read8 0x0000 = 0x12 := by
  decide
theorem test_meets_InReadsPort :
    (3 : Byte) = State.reset.config.shiftReadPort ∧
      ((2 : Byte) ≠ State.reset.config.shiftReadPort ∧ (2 : Byte) ∈ State.reset.config.inputPorts) ∧
      ((4 : Byte) ≠ State.reset.config.shiftReadPort ∧ (4 : Byte) ∉ State.reset.config.inputPorts) := by decide
theorem test_meets_OutWritesShiftPorts :
    (2 : Byte) = State.reset.config.shiftAmountPort ∧
      ((4 : Byte) ≠ State.reset.config.shiftAmountPort ∧ (4 : Byte) = State.reset.config.shiftDataPort) ∧
      ((6 : Byte) ≠ State.reset.config.shiftAmountPort ∧ (6 : Byte) ≠ State.reset.config.shiftDataPort ∧
        maskAt State.reset.config 6 = none) := by decide
theorem test_meets_OutSoundEdges :
    (3 : Byte) ≠ State.reset.config.shiftAmountPort ∧ (3 : Byte) ≠ State.reset.config.shiftDataPort ∧
      maskAt State.reset.config 3 = some 0x0F ∧ maskAt State.reset.config 5 = some 0x1F := by decide
theorem test_meets_SoundToggleGivesTwoEvents :
    (3 : Byte) ≠ State.reset.config.shiftAmountPort ∧ (3 : Byte) ≠ State.reset.config.shiftDataPort ∧
      maskAt State.reset.config 3 = some 0x0F ∧ (0x0F : Byte).getLsbD (3 : Fin 8).val = true ∧
      State.reset.latchAt 3 = 0 := by decide
theorem test_meets_ShiftRegisterAfterTwoWrites :
    (start [shamt 3, shreg 0x5A5A] 0 []).config.wf = true ∧ (start [shamt 3, shreg 0x5A5A] 0 []).shiftAmount = 3 := by decide
theorem test_meets_FlagsFrame :
    ∃ t, exec .inrA State.reset = .next t ∧ FlagName.cy ∉ flagsWritten Instr.inrA.form := ⟨_, rfl, by decide⟩
theorem test_meets_RegistersFrame :
    ∃ t, exec .xchg State.reset = .next t ∧ Reg.a ∉ regsWritten Instr.xchg.form ∧ writesSp Instr.xchg.form = false ∧
      writesPc Instr.xchg.form = false := ⟨_, rfl, by decide, by decide, by decide⟩
theorem test_meets_MemoryFrame :
    ∃ t, exec (.shld 0xFFFF) State.reset = .next t ∧
      (0x0001 : Word) ∉ storedAddresses State.reset (Instr.shld 0xFFFF).form := ⟨_, rfl, by decide⟩
theorem test_meets_SystemStateFrame :
    ∃ t, exec .nop State.reset = .next t ∧ Instr.nop ≠ .ei ∧ Instr.nop ≠ .di ∧ Instr.nop ≠ .hlt ∧
      (∀ op, Instr.nop ≠ .unsupported op) ∧ (∀ p, Instr.nop ≠ .outPort p) :=
  ⟨_, rfl, by decide, by decide, by decide, by simp, by simp⟩
/-- A fetched instruction that completes, and a fetched byte without one. -/
theorem test_meets_StepRunsDecodedInstruction :
    (fetcher.fetching ∧ fetcher.read8 fetcher.pc ∉ fetcher.config.disabledOpcodes ∧
      decode [fetcher.read8 fetcher.pc, fetcher.read8 (fetcher.pc + 1), fetcher.read8 (fetcher.pc + 2)] =
        .ok (.inrA, [0, 0]) ∧
      ∃ t, exec .inrA (fetcher.setPc (fetcher.pc + BitVec.ofNat 16 Instr.inrA.length)) = .next t ∧ t.fault = none) ∧
    (∃ t, exec (.unsupported 0x08) (start [] 0x0100 [0x08]) = .next t ∧ t.fault ≠ none) ∧
    (∀ cc a, (Instr.jmp 0).form ≠ .jcc cc a) ∧ (∀ cc a, (Instr.jmp 0).form ≠ .ccc cc a) ∧
    ∀ cc, (Instr.jmp 0).form ≠ .rcc cc :=
  ⟨⟨⟨⟨rfl, rfl⟩, rfl, rfl⟩, by decide, rfl, _, rfl, rfl⟩, ⟨_, rfl, by decide⟩, nofun, nofun, nofun⟩
theorem test_meets_UnsupportedStepIsPrecise :
    ((start [] 0x0100 [0x08]).fetching ∧
      (start [] 0x0100 [0x08]).read8 (start [] 0x0100 [0x08]).pc ∈ unsupportedBytes) ∧
    (let s := start [cfg fun c => { c with disabledOpcodes := [0x3C] }] 0x0100 [0x3C]
     s.fetching ∧ s.read8 s.pc ∈ s.config.disabledOpcodes) ∧
    ∃ t, step (start [] 0x0100 [0x08]) = .next t ∧ t.fault ≠ none :=
  ⟨⟨⟨⟨rfl, rfl⟩, rfl, rfl⟩, by decide⟩, ⟨⟨⟨rfl, rfl⟩, rfl, rfl⟩, by decide⟩, _, rfl, by decide⟩
theorem test_meets_NoStepAfterTheEnd :
    (edit [fault 0x0100 0x08] State.reset).fault = some (.unsupportedOpcode 0x0100 0x08) ∧
      (State.reset.setRun .stopped).fault = none ∧ (State.reset.setRun .stopped).run = .stopped := by decide
/-- Live states of the three kinds; the fatal error comes from a fetch. -/
theorem test_meets_EveryLiveStepCompletes :
    fetcher.live ∧ entering.live ∧ idling.live ∧ (start [] 0x0100 [0x08]).live ∧
      ∃ t, step (start [] 0x0100 [0x08]) = .next t ∧ t.fault ≠ none :=
  ⟨⟨rfl, rfl⟩, ⟨rfl, rfl⟩, ⟨rfl, rfl⟩, ⟨rfl, rfl⟩, _, rfl, by decide⟩
theorem test_meets_InterruptEntryAndHaltedSteps :
    (entering.live ∧ entering.pending = some 7) ∧ idling.live ∧ idling.pending = none ∧ idling.halted = true :=
  ⟨⟨⟨rfl, rfl⟩, rfl⟩, ⟨rfl, rfl⟩, rfl, rfl⟩
/-- A step for the second part: an OUT to a sound port that gives an event. -/
theorem test_meets_YieldMeetsHost :
    ∃ t, step (start [r .a 0x01] 0x0100 [0xD3, 0x03]) = .next t := ⟨_, rfl⟩
/-- One cycle below the budget, and exactly at it in each phase. -/
theorem test_meets_SchedulerEvents :
    let s := fetcher.setPacing 100 16661
    s.halfCycles + 4 < s.config.halfBudget ∧ (s.config.halfBudget ≤ s.halfCycles + 5 ∧ s.phase = .first) ∧
      (s.config.halfBudget ≤ s.halfCycles + 5 ∧ (s.setPhase .second).phase = .second) := by decide
theorem test_meets_PendingVectorIsConsumed : entering.pending ≠ none ∧ ∃ t, step entering = .next t := ⟨by decide, _, rfl⟩
theorem test_meets_WritersOfIeAndHalted :
    (∃ t, step (start [] 0x0100 [0xFB]) = .next t ∧ t.ie = true ∧ t.halted = false) ∧
    (∃ t, step (start [ie true] 0x0100 [0xF3]) = .next t ∧ t.ie = false) ∧
    (∃ t, step (start [] 0x0100 [0x76]) = .next t ∧ t.halted = true) ∧
    ∃ t, step entering = .next t ∧ t.ie = false ∧ t.halted = false :=
  ⟨⟨_, rfl, rfl, rfl⟩, ⟨_, rfl, rfl⟩, ⟨_, rfl, rfl⟩, _, rfl, rfl, rfl⟩
theorem test_meets_PendingOnlyFromScheduler :
    ∃ t, step (start [ie true, budget 1] 0x0100 [0x3C]) = .next t ∧ t.pending = some 1 := ⟨_, rfl, rfl⟩
theorem test_meets_WritersOfMemory :
    (∃ t, step (start [r .a 1] 0x0100 [0x32, 0x00, 0x20]) = .next t ∧
      t.read8 0x2000 ≠ (start [r .a 1] 0x0100 [0x32, 0x00, 0x20]).read8 0x2000) ∧
    ∃ t, step entering = .next t ∧ t.read8 0x23FF ≠ entering.read8 0x23FF := ⟨⟨_, rfl, by decide⟩, _, rfl, by decide⟩
theorem test_meets_ProgramRegionProtected :
    let s := start [r .a 1, rom] 0x0100 [0x32, 0xFF, 0x1F]
    s.config.romWritePolicy = .ignore ∧ (∃ t, step s = .next t) ∧ (0x1FFF : Word).toNat < s.config.programRegionSize :=
  ⟨rfl, ⟨_, rfl⟩, by decide⟩
theorem test_meets_HaltWithoutInterruptsIsPermanent :
    idling.fault = none ∧ idling.halted = true ∧ idling.ie = false ∧ idling.pending = none ∧
      ∃ t, Host.Core.run Sys2Proof.core 2 idling = .next t := ⟨rfl, rfl, rfl, rfl, _, rfl⟩
theorem test_meets_EveryStepCountsCycles :
    fetcher.config.wf = true ∧ ∃ t, step fetcher = .next t ∧ t.fault = none := ⟨by decide, _, rfl, rfl⟩
/-- The reset values with an image one byte longer than the program region: its last byte that is loaded, and the next that is not. -/
theorem test_meets_ResetValues :
    (State.powerOn { Config.platform with programRegionSize := 2 } [1, 2, 3] ResetDraw.zero).read8 1 = 2 ∧
      (State.powerOn { Config.platform with programRegionSize := 2 } [1, 2, 3] ResetDraw.zero).read8 2 = 0 := by decide
/-- A state with a vector pending, a latch set and memory listed meets the invariant, and steps. -/
theorem test_meets_InvariantKeptByEveryStep :
    Inv (start [sp 0x2400, ie true, vec (some 1)] 0x1234 [0x3C]) ∧
      ∃ t, step (start [sp 0x2400, ie true, vec (some 1)] 0x1234 [0x3C]) = .next t :=
  ⟨⟨by decide, rfl, rfl, fun _ => by simp [State.latchAt, start, put, edit, m, sp, ie, vec, State.reset, Cells.get, Cells.unlisted,
      State.setPc, State.setMem, State.setSp, State.setIe, State.setPending], by decide, by decide, by decide, by decide,
    by decide⟩, _, rfl⟩

end Sys2Proof.Tests
end

section
/-! SUPPORT. Which bytes the decoder gives no instruction (30_encoding.md R102, R103). -/

namespace Sys2Proof

/-- The byte that an instruction carries when it stands for a byte without an instruction. -/
def Instr.unsupportedByte : Instr → Option Byte
  | .unsupported op => some op
  | _ => none

theorem unsupportedByte_eq_some {i : Instr} {x : Byte} : i.unsupportedByte = some x ↔ i = .unsupported x := by
  cases i <;> simp [Instr.unsupportedByte]

set_option maxRecDepth 2000 in -- the two sides are compared along a list of 256 cells
/-- The map R101 cell by cell: the cells without an instruction are those of the twelve bytes, and no operand byte has a say in it. -/
theorem opcodeMap_unsupportedByte (b2 b3 : Byte) :
    opcodeMap.map (fun cell => (cell b2 b3).unsupportedByte) =
      (List.range 256).map (fun k => if BitVec.ofNat 8 k ∈ unsupportedBytes then some (BitVec.ofNat 8 k) else none) :=
  rfl

theorem decodeBytes_unsupportedByte (op b2 b3 : Byte) :
    (decodeBytes op b2 b3).unsupportedByte = if op ∈ unsupportedBytes then some op else none := by
  have hcell : (decodeBytes op b2 b3).unsupportedByte =
      (opcodeMap.map (fun cell => (cell b2 b3).unsupportedByte)).getD op.toNat (some op) :=
    (List.getD_map opcodeMap (unsupp op) (fun cell : Byte → Byte → Instr => (cell b2 b3).unsupportedByte)).symm
  have hop : op.toNat < 256 := op.isLt
  rw [hcell, opcodeMap_unsupportedByte]
  simp [List.getD, hop]

theorem decodeBytes_eq_unsupported {op b2 b3 x : Byte} :
    decodeBytes op b2 b3 = .unsupported x ↔ op = x ∧ op ∈ unsupportedBytes := by
  rw [← unsupportedByte_eq_some, decodeBytes_unsupportedByte]
  split <;> simp [*]

end Sys2Proof

namespace Sys2Proof.Proofs

/-- Settles O4: the two cases of `ModeledOpcodes` from the decoder's laws, the twelve bytes from the map read cell by cell. -/
theorem decodeUnsupported : Obligations.DecodeUnsupported := by
  refine ⟨fun dis op b2 b3 => ⟨fun h => ?disabled, fun h => ?enabled⟩, fun op b2 b3 x => decodeBytes_eq_unsupported⟩
  case disabled => exact decodeModeled_disabled (List.contains_iff_mem.mpr h) b2 b3
  case enabled => exact decodeModeled_enabled (by simpa using h) b2 b3

end Sys2Proof.Proofs
end

section
/-! SUPPORT. Packed decimal numbers (00_scope.md R19): what DAA (R161) does to the sum of two of them. -/

namespace Sys2Proof.Machine

/-- A number below 100 in packed decimal: its tens in bits 7:4, its ones in bits 3:0 (R19). -/
def packedDecimal (k : Nat) : Byte := BitVec.ofNat 8 (k / 10 * 16 + k % 10)

theorem packedDecimal_toNat {k : Nat} (h : k < 100) : (packedDecimal k).toNat = k / 10 * 16 + k % 10 := by
  rw [packedDecimal, BitVec.toNat_ofNat]
  omega

theorem bitNat_le_one (c : Bool) : bitNat c ≤ 1 := by
  cases c <;> decide

/-- CY after DAA is whether the high nibble was corrected, since a CY that was set asks for that correction (R161). -/
theorem daa8_cy (a : Byte) (f : Flags) : (daa8 a f).flags.cy = daaHigh a f := by
  cases h : f.cy <;> simp [daa8, Flags.ofResult, daaHigh, h]

theorem daa8_value_toNat (a : Byte) (f : Flags) : (daa8 a f).value.toNat =
    (a.toNat + ((if daaLow a f then 6 else 0) + if daaHigh a f then 96 else 0)) % 256 := by
  simp [daa8]

/-- What ADD or ADC makes of two packed decimal numbers, before DAA (R140). -/
def packedSum (x y : Nat) (c : Bool) : AluResult := add8 (packedDecimal x) (packedDecimal y) c

section
variable {x y : Nat} (hx : x < 100) (hy : y < 100) (c : Bool)
include hx hy

/-- The tens add up in the high nibble, the ones in the low one. -/
theorem packedSum_toNat : (packedSum x y c).value.toNat =
    (16 * (x / 10 + y / 10) + (x % 10 + y % 10 + bitNat c)) % 256 := by
  rw [packedSum, add8, packedDecimal_toNat hx, packedDecimal_toNat hy, BitVec.toNat_ofNat]
  omega

theorem lowNibble_packedSum : lowNibble (packedSum x y c).value = (x % 10 + y % 10 + bitNat c) % 16 := by
  rw [lowNibble, packedSum_toNat hx hy]
  omega

theorem highNibble_packedSum : highNibble (packedSum x y c).value =
    (x / 10 + y / 10 + (x % 10 + y % 10 + bitNat c) / 16) % 16 := by
  rw [highNibble, packedSum_toNat hx hy]
  omega

theorem packedSum_ac : (packedSum x y c).flags.ac = decide (x % 10 + y % 10 + bitNat c > 15) := by
  have hlow (k : Nat) : (k / 10 * 16 + k % 10) % 16 = k % 10 := by omega
  simp [packedSum, add8, Flags.ofResult, lowNibble, packedDecimal_toNat hx, packedDecimal_toNat hy, hlow]

theorem packedSum_cy : (packedSum x y c).flags.cy =
    decide (x / 10 + y / 10 + (x % 10 + y % 10 + bitNat c) / 16 > 15) := by
  rw [packedSum, add8, packedDecimal_toNat hx, packedDecimal_toNat hy, Flags.ofResult, decide_eq_decide]
  omega

/-- The low nibble is corrected exactly when the ones carry. -/
theorem daaLow_packedSum :
    daaLow (packedSum x y c).value (packedSum x y c).flags = decide (x % 10 + y % 10 + bitNat c > 9) := by
  have hc := bitNat_le_one c
  rw [daaLow, lowNibble_packedSum hx hy, packedSum_ac hx hy, ← Bool.decide_or, decide_eq_decide]
  omega

/-- The high nibble is corrected exactly when the sum has a third digit. -/
theorem daaHigh_packedSum :
    daaHigh (packedSum x y c).value (packedSum x y c).flags = decide (x + y + bitNat c ≥ 100) := by
  have hc := bitNat_le_one c
  rw [daaHigh, lowNibble_packedSum hx hy, highNibble_packedSum hx hy, packedSum_cy hx hy, ← Bool.decide_or,
    ← Bool.decide_and, ← Bool.decide_or, decide_eq_decide]
  have htens : x / 10 + y / 10 ≤ 18 := by omega
  have hones : x % 10 + y % 10 + bitNat c ≤ 19 := by omega
  have hsum : x + y + bitNat c = 10 * (x / 10 + y / 10) + (x % 10 + y % 10 + bitNat c) := by omega
  rw [hsum]
  generalize x / 10 + y / 10 = tens at htens
  generalize x % 10 + y % 10 + bitNat c = ones at hones
  omega

theorem daa8_packedSum_value : (daa8 (packedSum x y c).value (packedSum x y c).flags).value =
    packedDecimal ((x + y + bitNat c) % 100) := by
  have hc := bitNat_le_one c
  apply BitVec.eq_of_toNat_eq
  rw [daa8_value_toNat, daaLow_packedSum hx hy, daaHigh_packedSum hx hy, packedSum_toNat hx hy,
    packedDecimal_toNat (Nat.mod_lt _ (by decide))]
  simp only [decide_eq_true_eq]
  split <;> split <;> omega

theorem daa8_packedSum_cy : (daa8 (packedSum x y c).value (packedSum x y c).flags).flags.cy = true ↔
    x + y + bitNat c ≥ 100 := by
  rw [daa8_cy, daaHigh_packedSum hx hy, decide_eq_true_eq]

end

end Sys2Proof.Machine

namespace Sys2Proof.Proofs

open Machine

/-- Settles O19: the two corrections of DAA are the carries out of the decimal digits. -/
theorem daaCorrectsDecimalSum : Obligations.DaaCorrectsDecimalSum := by
  intro x y c n hn
  subst hn
  exact ⟨daa8_packedSum_value x.isLt y.isLt c, daa8_packedSum_cy x.isLt y.isLt c⟩

end Sys2Proof.Proofs
end

section
/-! SUPPORT. Registers, pairs, SP and PC: what a write leaves of them, and what an instruction leaves (10_state.md R20 to R27). -/

namespace Sys2Proof.Machine

variable (s : State)

/-! ### Pairs -/

/-- A pair read after a pair write: no two pairs share a register. -/
theorem pair_setPair (p q : Pair) (v : Word) : (s.setPair p v).pair q = if q = p then v else s.pair q := by
  cases p <;> cases q
  case bc.bc | de.de | hl.hl => exact word16_hiByte_loByte v
  all_goals rfl

theorem setPair_reg_a (p : Pair) (v : Word) : (s.setPair p v).reg .a = s.reg .a := by
  cases p <;> rfl

theorem setPair_frame (p : Pair) (v : Word) : { s.setPair p v with regs := s.regs, sp := s.sp } = s := by
  cases p <;> rfl

theorem setPair_sp_other {p : Pair} (v : Word) (h : (p == .sp) = false) : (s.setPair p v).sp = s.sp := by
  cases p
  case sp => cases h
  all_goals rfl

/-! ### Registers that are no destination (R23) -/

theorem reg_eq_of_regs {s t : State} (h : t.regs = s.regs) (r : Reg) : t.reg r = s.reg r :=
  congrArg (Regs.get · r) h

theorem reg_setReg_other {r q : Reg} (v : Byte) (h : q ≠ r) : (s.setReg r v).reg q = s.reg q := by
  rw [reg_setReg, if_neg h]

theorem reg_setOperand_other {o : Operand} {q : Reg} (v : Byte) (h : q ∉ operandReg o) :
    (s.setOperand o v).reg q = s.reg q := by
  cases o with
  | reg r => exact reg_setReg_other s v (List.ne_of_not_mem_cons h)
  | mem => exact reg_eq_of_regs (write8_regs s s.hl v) q

theorem reg_setPair_other {p : Pair} {q : Reg} (v : Word) (h : q ∉ pairRegs p) :
    (s.setPair p v).reg q = s.reg q := by
  have htwo {x y : Reg} (hq : q ∉ [x, y]) : ((s.setReg x (hiByte v)).setReg y (loByte v)).reg q = s.reg q := by
    rw [reg_setReg_other _ _ (List.ne_of_not_mem_cons (List.not_mem_of_not_mem_cons hq)),
      reg_setReg_other _ _ (List.ne_of_not_mem_cons hq)]
  cases p
  case sp => rfl
  all_goals exact htwo h

theorem reg_aluEffect_other {op : AluOp} {q : Reg} (v : Byte) (h : q ∉ aluDest op) :
    (aluEffect op v s).reg q = s.reg q := by
  cases op
  case cmp => rfl
  all_goals exact reg_setReg_other s _ (List.ne_of_not_mem_cons h)

/-- A general register that is no destination of an instruction stays. -/
theorem effect_reg_other {x : Form} {q : Reg} (h : q ∉ regsWritten x) : (effect x s).reg q = s.reg q := by
  cases x
  case mov | mvi | inr | dcr => exact reg_setOperand_other s _ h
  case lxi | inx | dcx => exact reg_setPair_other s _ h
  case pop => exact reg_setPair_other s.popped _ h
  case lhld | dad => exact reg_setPair_other (p := .hl) s _ h
  case xthl => exact (reg_setPair_other (p := .hl) _ _ h).trans (reg_eq_of_regs (by simp) q)
  case xchg =>
    have hregs : regsWritten .xchg = pairRegs .de ++ pairRegs .hl := rfl
    rw [hregs, List.mem_append, not_or] at h
    obtain ⟨hde, hhl⟩ := h
    exact (reg_setPair_other (p := .de) _ _ hde).trans (reg_setPair_other (p := .hl) s _ hhl)
  case alu | aluImm => exact reg_aluEffect_other s _ h
  case lda | ldax | daa | rlc | rrc | ral | rar | cma | popPsw | inPort =>
    exact reg_setReg_other s _ (List.ne_of_not_mem_cons h)
  case jcc | ccc | rcc => exact onCondition_same s (State.reg · q) _ (reg_eq_of_regs (by simp) q)
  all_goals exact reg_eq_of_regs (by simp [effect]) q

/-- SP stays unless the instruction is one that writes it (R27). -/
theorem effect_sp_other {x : Form} (h : writesSp x = false) : (effect x s).sp = s.sp := by
  cases x
  case lxi | inx | dcx => exact setPair_sp_other s _ h
  case jcc => exact onCondition_same s State.sp _ (setPc_sp s _)
  case push | pop | pushPsw | popPsw | call | ccc | ret | rcc | rst | sphl => cases h
  all_goals simp [effect]

/-- The PC stays past the instruction unless the instruction sets it itself (R26). -/
theorem effect_pc_other {x : Form} (h : writesPc x = false) : (effect x s).pc = s.pc := by
  cases x
  case jmp | jcc | call | ccc | ret | rcc | rst | pchl => cases h
  all_goals simp [effect]

end Sys2Proof.Machine

namespace Sys2Proof.Proofs

open Machine

/-- Settles O40: reads after writes from the pair and register laws, the frame from the effect of each family. -/
theorem registersFrame : Obligations.RegistersFrame := by
  refine ⟨fun s r q v => ⟨reg_setReg s r q v, rfl⟩, fun s f v => ⟨rfl, rfl, rfl⟩, fun s => ?pairs,
    fun s p q v => ⟨pair_setPair s p q v, setPair_reg_a s p v, setPair_frame s p v⟩,
    fun s r v => ⟨rfl, rfl, rfl, rfl⟩, fun s r => rfl, fun i s t h => ?frame⟩
  case pairs => exact ⟨word16_toNat _ _, word16_toNat _ _, word16_toNat _ _, rfl, rfl, rfl, rfl⟩
  case frame =>
    rw [exec_next h]
    exact ⟨fun r hr => effect_reg_other s hr, effect_sp_other s, effect_pc_other s⟩

end Sys2Proof.Proofs
end

section
/-! SUPPORT. The step of a fetched instruction (60_exceptions.md R250, R271) and the fatal error of a byte without one (R241). -/

namespace Sys2Proof

/-- Three bytes that decode at all decode to the instruction the map gives for them. -/
theorem decodeBytes_of_decode {op b2 b3 : Byte} {i : Instr} {rest : List Byte}
    (h : decode [op, b2, b3] = .ok (i, rest)) : decodeBytes op b2 b3 = i := by
  rw [decode] at h
  split at h
  · cases h
  · exact congrArg Prod.fst (Except.ok.inj h)

end Sys2Proof

namespace Sys2Proof.Machine

theorem fetched_of_decode {s : State} {i : Instr} {rest : List Byte} (hen : s.read8 s.pc ∉ s.config.disabledOpcodes)
    (hd : decode [s.read8 s.pc, s.read8 (s.pc + 1), s.read8 (s.pc + 2)] = .ok (i, rest)) : s.fetched = i := by
  rw [State.fetched, decodeModeled_enabled (by simpa using hen), decodeBytes_of_decode hd]

/-- Only a conditional jump, call or return can count as taken (R95, R320). -/
theorem conditionTaken_eq_false {i : Instr} (f : Flags) (hj : ∀ cc a, i.form ≠ .jcc cc a) (hc : ∀ cc a, i.form ≠ .ccc cc a)
    (hr : ∀ cc, i.form ≠ .rcc cc) : conditionTaken i f = false := by
  unfold conditionTaken
  cases hf : i.form
  case jcc cc a => exact absurd hf (hj cc a)
  case ccc cc a => exact absurd hf (hc cc a)
  case rcc cc => exact absurd hf (hr cc)
  all_goals rfl

end Sys2Proof.Machine

namespace Sys2Proof.Proofs

open Machine

/-- Settles O38: the effect of the family of bytes without an instruction is the fatal error alone. -/
theorem unsupportedRaisesFatal : Obligations.UnsupportedRaisesFatal :=
  fun op s => exec_eq_effect (.unsupported op) s

/-- Settles O43: the instruction decoded at the PC is the one fetched, and its effect is what the step of a fetch schedules. -/
theorem stepRunsDecodedInstruction : Obligations.StepRunsDecodedInstruction := by
  refine ⟨fun s t i rest hs hen hd hx => ?step, fun i f => conditionTaken_eq_false f⟩
  have hi : s.fetched = i := fetched_of_decode hen hd
  have ht : s.executed = t := by rw [exec_next hx, State.executed, hi, State.advance]
  have hstep := step_fetching hs
  rw [ht, hi] at hstep
  constructor
  · intro hf
    rw [hstep, hf]
  · intro hf
    obtain ⟨e, he⟩ := Option.ne_none_iff_exists'.mp hf
    rw [hstep, he]

end Sys2Proof.Proofs
end

section
/-! SUPPORT. What an instruction leaves of the flags, of the system state and of memory (10_state.md R34 to R49, 20_memory.md R71). -/

namespace Sys2Proof.Machine

variable (s : State)

/-! ### Flags -/

theorem mem_allFlags (f : FlagName) : f ∈ allFlags := by
  cases f <;> decide

theorem setCarry_flag_other (b : Bool) {f : FlagName} (h : f ∉ [FlagName.cy]) :
    (s.setCarry b).flags.get f = s.flags.get f := by
  cases f
  case cy => exact absurd (List.mem_singleton_self _) h
  all_goals rfl

/-- INR and DCR write every flag but CY. -/
theorem eq_cy_of_not_written {f : FlagName} (h : f ∉ [FlagName.z, .s, .p, .ac]) : f = .cy := by
  cases f
  case cy => rfl
  all_goals exact absurd (by decide) h

/-- A flag outside the column "flags written" stays (R34). -/
theorem effect_flag_other {x : Form} {f : FlagName} (h : f ∉ flagsWritten x) :
    (effect x s).flags.get f = s.flags.get f := by
  cases x
  case alu | aluImm | daa | popPsw => exact absurd (mem_allFlags f) h
  case inr | dcr =>
    cases eq_cy_of_not_written h
    rfl
  case cmc | stc => exact setCarry_flag_other s _ h
  case rlc | rrc | ral | rar => exact setCarry_flag_other (s.setReg .a _) _ h
  case dad => exact (setCarry_flag_other (s.setHl _) _ h).trans (congrArg (Flags.get · f) (setHl_flags s _))
  case jcc | ccc | rcc => exact onCondition_same s (State.flags · |>.get f) _ (by simp)
  all_goals exact congrArg (Flags.get · f) (by simp [effect])

/-! ### The system state -/

theorem blindToCpu_ie : BlindToCpu State.ie := ⟨by simp, by simp, by simp, by simp, by simp⟩

theorem blindToCpu_halted : BlindToCpu State.halted := ⟨by simp, by simp, by simp, by simp, by simp⟩

theorem blindToCpu_fault : BlindToCpu State.fault := ⟨by simp, by simp, by simp, by simp, by simp⟩

/-- The part of the state that only OUT writes: shift register, shift amount, sound latches and sound events (R40, R41, R43, R44). -/
def State.portOutputs : Word × BitVec 3 × Cells × List SoundEvent :=
  (s.shiftRegister, s.shiftAmount, s.soundLatch, s.soundEvents)

theorem blindToCpu_portOutputs : BlindToCpu State.portOutputs :=
  ⟨fun _ _ _ => rfl, fun _ _ => rfl, fun _ _ => rfl, fun _ _ => rfl, by simp [State.portOutputs]⟩

/-- Only EI and DI write IE (R36). -/
theorem effect_ie_other {x : Form} (hei : x ≠ .ei) (hdi : x ≠ .di) : (effect x s).ie = s.ie := by
  cases x
  case ei => contradiction
  case di => contradiction
  case outPort => exact portOut_ie s _ _
  case hlt | unsupported => rfl
  all_goals exact effect_blind s blindToCpu_ie _ rfl

/-- Only HLT writes `halted` (R38). -/
theorem effect_halted_other {x : Form} (hhlt : x ≠ .hlt) : (effect x s).halted = s.halted := by
  cases x
  case hlt => contradiction
  case outPort => exact portOut_halted s _ _
  case ei | di | unsupported => rfl
  all_goals exact effect_blind s blindToCpu_halted _ rfl

/-- Only a byte without an instruction raises the fatal error (R39). -/
theorem effect_fault_other {x : Form} (hx : ∀ op, x ≠ .unsupported op) : (effect x s).fault = s.fault := by
  cases x
  case unsupported op => exact absurd rfl (hx op)
  case outPort => exact portOut_fault s _ _
  case ei | di | hlt => rfl
  all_goals exact effect_blind s blindToCpu_fault _ rfl

theorem effect_portOutputs_other {x : Form} (hx : ∀ p, x ≠ .outPort p) : (effect x s).portOutputs = s.portOutputs := by
  cases x
  case outPort p => exact absurd rfl (hx p)
  case ei | di | hlt | unsupported => rfl
  all_goals exact effect_blind s blindToCpu_portOutputs _ rfl

/-! ### Memory -/

theorem ne_hl_of_not_mem_operandStore {o : Operand} {a : Word} (h : a ∉ operandStore s o) (ho : o = .mem) : a ≠ s.hl := by
  subst ho
  exact List.ne_of_not_mem_cons h

/-- A push leaves every byte but the two it stores (R220). -/
theorem read8_push16_of_not_mem (v : Word) {a : Word} (h : a ∉ pushStore s) : (s.push16 v).read8 a = s.read8 a :=
  read8_push16_other s v (List.ne_of_not_mem_cons h) (List.ne_of_not_mem_cons (List.not_mem_of_not_mem_cons h))

/-- Two byte writes leave every byte but the two written. -/
theorem read8_write8_write8_other {a b x : Word} (v w : Byte) (h : x ∉ [a, b]) :
    ((s.write8 a v).write8 b w).read8 x = s.read8 x := by
  rw [read8_write8_other _ _ (List.ne_of_not_mem_cons (List.not_mem_of_not_mem_cons h)),
    read8_write8_other _ _ (List.ne_of_not_mem_cons h)]

/-- A byte of memory that an instruction does not store to stays (R71). -/
theorem effect_read8_other {x : Form} {a : Word} (h : a ∉ storedAddresses s x) : (effect x s).read8 a = s.read8 a := by
  cases x
  case mov | mvi | inr | dcr => exact read8_setOperand_other s _ _ (ne_hl_of_not_mem_operandStore s h)
  case sta | stax => exact read8_write8_other s _ (List.ne_of_not_mem_cons h)
  case shld => exact read8_write8_write8_other s _ _ h
  case push | pushPsw | call | rst => exact read8_push16_of_not_mem s _ h
  case xthl => exact (read8_eq_of_mem (setHl_mem _ _) a).trans (read8_write8_write8_other s _ _ h)
  case ccc cc a16 =>
    rw [effect, onCondition_view s (State.read8 · a)]
    rw [storedAddresses] at h
    split
    · exact read8_push16_of_not_mem s _ (by simpa [*] using h)
    · rfl
  case jcc | rcc => exact onCondition_same s (State.read8 · a) _ (read8_eq_of_mem (by simp) a)
  all_goals exact read8_eq_of_mem (by simp [effect]) a

end Sys2Proof.Machine

namespace Sys2Proof

/-! ### The instructions that are alone in their family -/

theorem form_eq_ei {i : Instr} : i.form = .ei ↔ i = .ei := by
  cases i <;> simp [Instr.form]

theorem form_eq_di {i : Instr} : i.form = .di ↔ i = .di := by
  cases i <;> simp [Instr.form]

theorem form_eq_hlt {i : Instr} : i.form = .hlt ↔ i = .hlt := by
  cases i <;> simp [Instr.form]

theorem form_eq_outPort {i : Instr} {p : Byte} : i.form = .outPort p ↔ i = .outPort p := by
  cases i <;> simp [Instr.form]

theorem form_eq_unsupported {i : Instr} {op : Byte} : i.form = .unsupported op ↔ i = .unsupported op := by
  cases i <;> simp [Instr.form]

end Sys2Proof

namespace Sys2Proof.Proofs

open Machine

/-- Settles O39: an instruction is the effect of its family, which leaves every flag outside its column. -/
theorem flagsFrame : Obligations.FlagsFrame := by
  intro i s t f h hf
  rw [exec_next h]
  exact effect_flag_other s hf

/-- Settles O42: each part of the system state has its own writers among the families. -/
theorem systemStateFrame : Obligations.SystemStateFrame := by
  intro i s t h
  rw [exec_next h]
  refine ⟨fun hei hdi => effect_ie_other s (mt form_eq_ei.mp hei) (mt form_eq_di.mp hdi),
    fun hhlt => effect_halted_other s (mt form_eq_hlt.mp hhlt),
    fun hun => effect_fault_other s fun op => mt form_eq_unsupported.mp (hun op), fun hout => ?ports, ?untouched⟩
  case ports => simpa [State.portOutputs] using effect_portOutputs_other s fun p => mt form_eq_outPort.mp (hout p)
  case untouched => simp

end Sys2Proof.Proofs
end

section
/-! SUPPORT. The shared addition (R140), and what the flags of a result byte say of it (10_state.md R29 to R31). -/

namespace Sys2Proof.Machine

variable (v : Byte) (ac cy : Bool)

theorem ofResult_z_iff : (Flags.ofResult v ac cy).z = true ↔ v.toNat = 0 := by
  simp [Flags.ofResult, ← BitVec.toNat_inj]

/-- Bit 7 is the sign: it is set from 128 on (R30). -/
theorem ofResult_s_iff : (Flags.ofResult v ac cy).s = true ↔ 128 ≤ v.toNat := by
  have h : v.getLsbD 7 = decide (128 ≤ v.toNat) := BitVec.msb_eq_decide v
  rw [Flags.ofResult, h, decide_eq_true_eq]

/-- P counts the 1 bits of the byte (R17, R31). -/
theorem ofResult_p_iff : (Flags.ofResult v ac cy).p = true ↔
    ((List.range 8).countP fun k => v.toNat.testBit k) % 2 = 0 :=
  beq_iff_eq

end Sys2Proof.Machine

namespace Sys2Proof.Proofs

open Machine

/-- Settles O11: the carries as add8 computes them, the other flags from the result byte. -/
theorem addResultAndFlags : Obligations.AddResultAndFlags := by
  intro a b c sum r
  exact ⟨BitVec.toNat_ofNat _ _, decide_eq_true_iff, decide_eq_true_iff, ofResult_z_iff _ _ _, ofResult_s_iff _ _ _,
    ofResult_p_iff _ _ _, rfl⟩

end Sys2Proof.Proofs
end

section
/-! SUPPORT. The sound ports: the bits that rise and the latches (60_exceptions.md R284, R287; 10_state.md R43). -/

namespace Sys2Proof.Machine

theorem mem_setBits {v : Byte} {k : Fin 8} : k ∈ setBits v ↔ v.getLsbD k.val = true := by
  have hall : k ∈ ([0, 1, 2, 3, 4, 5, 6, 7] : List (Fin 8)) := by revert k; decide
  rw [setBits, List.mem_filter, and_iff_right hall]

/-- The bits of a byte are listed in ascending order. -/
theorem setBits_pairwise (v : Byte) : (setBits v).Pairwise (· < ·) :=
  List.Pairwise.filter _ (by decide)

/-- The events are the bits that were 0 and are 1 (R287). -/
theorem mem_risingEvents {p new old : Byte} {e : SoundEvent} :
    e ∈ risingEvents p new old ↔ e.port = p ∧ new.getLsbD e.bit.val = true ∧ old.getLsbD e.bit.val = false := by
  have hbit (k : Fin 8) : (new &&& ~~~old).getLsbD k.val = true ↔ new.getLsbD k.val = true ∧ old.getLsbD k.val = false := by
    simp [k.isLt]
  rw [risingEvents, List.mem_map]
  constructor
  · rintro ⟨k, hk, rfl⟩
    exact ⟨rfl, (hbit k).mp (mem_setBits.mp hk)⟩
  · rintro ⟨rfl, h⟩
    exact ⟨e.bit, mem_setBits.mpr ((hbit e.bit).mpr h), rfl⟩

theorem risingEvents_pairwise (p new old : Byte) : (risingEvents p new old).Pairwise (fun x y => x.bit < y.bit) :=
  List.pairwise_map.mpr (setBits_pairwise _)

variable (s : State)

/-- A port number read after a write of the map of ports. -/
theorem get_set_port (m : Cells) (p q v : Byte) :
    Cells.get (Cells.set m p.toNat v) q.toNat = if q = p then v else Cells.get m q.toNat := by
  rw [get_set]
  exact if_congr BitVec.toNat_inj rfl rfl

/-- A sound write sets the latch of its port, masked, and no other (R287). -/
theorem soundWrite_latchAt (p m v q : Byte) :
    (s.soundWrite p m v).latchAt q = if q = p then v &&& m else s.latchAt q :=
  get_set_port s.soundLatch p q _

/-- Where an OUT writes a sound port (R284). -/
theorem portOut_sound {p m : Byte} (v : Byte) (hamount : p ≠ s.config.shiftAmountPort) (hdata : p ≠ s.config.shiftDataPort)
    (hm : maskAt s.config p = some m) : s.portOut p v = s.soundWrite p m v := by
  rw [State.portOut, if_neg hamount, if_neg hdata, hm]

/-- What an OUT does to the sound latches: nothing, or the write of a sound port with its mask (R284 to R287). -/
theorem portOut_latch_cases (p v : Byte) :
    (s.portOut p v).soundLatch = s.soundLatch ∨
      ∃ m, maskAt s.config p = some m ∧ (s.portOut p v).soundLatch = (s.soundWrite p m v).soundLatch := by
  unfold State.portOut
  split
  · exact .inl rfl
  · split
    · exact .inl rfl
    · split
      · exact .inr ⟨_, ‹_›, rfl⟩
      · exact .inl rfl

/-- Every latch has only bits of its port's mask (R43). -/
def State.latchesMasked : Prop := ∀ p : Byte, s.latchAt p &&& ~~~((maskAt s.config p).getD 0) = 0

theorem latchesMasked_of_eq {s t : State} (hl : t.soundLatch = s.soundLatch) (hc : t.config = s.config)
    (h : s.latchesMasked) : t.latchesMasked := by
  intro p
  rw [State.latchAt, hl, hc]
  exact h p

theorem latchesMasked_portOut {s : State} (h : s.latchesMasked) (p v : Byte) : (s.portOut p v).latchesMasked := by
  rcases portOut_latch_cases s p v with hsame | ⟨m, hm, hset⟩
  · exact latchesMasked_of_eq hsame (portOut_config s p v) h
  · intro q
    rw [State.latchAt, hset, portOut_config]
    refine (congrArg (· &&& _) (soundWrite_latchAt s p m v q)).trans ?_
    by_cases hq : q = p
    · subst hq
      simp [hm, BitVec.and_assoc]
    · simpa [hq] using h q

end Sys2Proof.Machine

namespace Sys2Proof.Proofs

open Machine

/-- Settles O34: the OUT is the sound write, whose events are the rising bits and whose latch is one cell of the map. -/
theorem outSoundEdges : Obligations.OutSoundEdges := by
  intro p m s hamount hdata hm
  refine ⟨s.soundWrite p m (s.reg .a), risingEvents p (s.reg .a &&& m) (s.latchAt p), ?_,
    (soundWrite_latchAt s p m _ p).trans (if_pos rfl), fun q hq => (soundWrite_latchAt s p m _ q).trans (if_neg hq), rfl,
    risingEvents_pairwise _ _ _, fun e => mem_risingEvents, rfl⟩
  rw [exec_eq_effect, ← portOut_sound s (s.reg .a) hamount hdata hm]
  rfl

end Sys2Proof.Proofs
end

section
/-! SUPPORT. A step in its two parts: the CPU's, and the scheduler's after it (60_exceptions.md R250, R271). -/

namespace Sys2Proof.Machine

variable {s t : State}

/-! ### Interrupt entry (R253) -/

@[simp] theorem interruptEntry_ie (s : State) (v : BitVec 3) : (s.interruptEntry v).ie = false := by
  simp [State.interruptEntry, State.callTo]

@[simp] theorem interruptEntry_halted (s : State) (v : BitVec 3) : (s.interruptEntry v).halted = false := by
  simp [State.interruptEntry, State.callTo]

@[simp] theorem interruptEntry_pending (s : State) (v : BitVec 3) : (s.interruptEntry v).pending = none := by
  simp [State.interruptEntry, State.callTo]

@[simp] theorem interruptEntry_soundLatch (s : State) (v : BitVec 3) : (s.interruptEntry v).soundLatch = s.soundLatch := by
  simp [State.interruptEntry, State.callTo]

@[simp] theorem interruptEntry_config (s : State) (v : BitVec 3) : (s.interruptEntry v).config = s.config := by
  simp [State.interruptEntry, State.callTo]

/-- Interrupt entry stores the two bytes of a push and no other. -/
theorem interruptEntry_read8_other (s : State) (v : BitVec 3) {a : Word} (h : a ∉ pushStore s) :
    (s.interruptEntry v).read8 a = s.read8 a :=
  read8_push16_of_not_mem (((s.setPending none).setHalted false).setIe false) s.pc h

/-! ### The CPU's part -/

/-- The state after the CPU's part of a step: interrupt entry, the halted step, or the instruction fetched (R250). -/
def State.afterCpu (s : State) : State :=
  match s.pending with
  | some v => s.interruptEntry v
  | none => if s.halted then s else s.executed

theorem cpuStep_eq (s : State) : cpuStep s = .next s.afterCpu := by
  cases hp : s.pending with
  | some v => simp only [cpuStep, State.afterCpu, hp]
  | none => cases hh : s.halted <;> simp [cpuStep, State.afterCpu, hp, hh, exec_eq_effect, State.executed]

/-- The three things the CPU's part of a live machine's step can be. -/
theorem afterCpu_cases (h : s.live) :
    (∃ v, s.pending = some v ∧ s.afterCpu = s.interruptEntry v) ∨
    (s.pending = none ∧ s.halted = true ∧ s.afterCpu = s) ∨
    (s.fetching ∧ s.afterCpu = s.executed) := by
  unfold State.afterCpu
  cases hp : s.pending with
  | some v => exact .inl ⟨v, rfl, rfl⟩
  | none =>
    cases hh : s.halted with
    | true => exact .inr (.inl ⟨rfl, rfl, rfl⟩)
    | false => exact .inr (.inr ⟨⟨h, hp, hh⟩, rfl⟩)

theorem afterCpu_fetching (h : s.fetching) : s.afterCpu = s.executed := by
  obtain ⟨-, hp, hh⟩ := h
  simp [State.afterCpu, hp, hh]

/-- Everything a step that answers a next state can be: the CPU's part alone, if it raised the fatal error, or with the scheduler's. -/
theorem step_afterCpu (h : step s = .next t) :
    s.live ∧ ((s.afterCpu.fault ≠ none ∧ t = s.afterCpu) ∨
      (s.afterCpu.fault = none ∧ t = s.afterCpu.schedule (cpuCycles s))) := by
  obtain ⟨hl, -⟩ := step_cases h
  rw [step_live hl, cpuStep_eq, afterCpuStep] at h
  refine ⟨hl, ?_⟩
  cases hf : s.afterCpu.fault with
  | some e => exact .inl ⟨Option.some_ne_none e, by simpa [hf] using h.symm⟩
  | none => exact .inr ⟨rfl, by simpa [hf] using h.symm⟩

/-- What the scheduler does not write is after a step what the CPU's part left. -/
theorem step_blind {α : Type} {f : State → α} (hf : BlindToScheduler f) (h : step s = .next t) : f t = f s.afterCpu := by
  rcases (step_afterCpu h).2 with ⟨-, rfl⟩ | ⟨-, rfl⟩
  · rfl
  · exact schedule_blind hf _ _

/-- What holds before the CPU's part and after interrupt entry and after the fetched instruction holds after the CPU's part. -/
theorem afterCpu_keeps {P : State → Prop} (hidle : P s) (hentry : ∀ v, P (s.interruptEntry v)) (hexec : P s.executed) :
    P s.afterCpu := by
  unfold State.afterCpu
  split
  · exact hentry _
  · split
    · exact hidle
    · exact hexec

@[simp] theorem afterCpu_config (s : State) : s.afterCpu.config = s.config :=
  afterCpu_keeps (P := fun t => t.config = s.config) rfl (by simp [State.interruptEntry, State.callTo])
    (by simp [State.executed, State.advance])

@[simp] theorem afterCpu_input (s : State) : s.afterCpu.input = s.input :=
  afterCpu_keeps (P := fun t => t.input = s.input) rfl (by simp [State.interruptEntry, State.callTo])
    (by simp [State.executed, State.advance])

@[simp] theorem afterCpu_totalCycles (s : State) : s.afterCpu.totalCycles = s.totalCycles :=
  afterCpu_keeps (P := fun t => t.totalCycles = s.totalCycles) rfl (by simp [State.interruptEntry, State.callTo])
    (by simp [State.executed, State.advance])

@[simp] theorem afterCpu_halfCycles (s : State) : s.afterCpu.halfCycles = s.halfCycles :=
  afterCpu_keeps (P := fun t => t.halfCycles = s.halfCycles) rfl (by simp [State.interruptEntry, State.callTo])
    (by simp [State.executed, State.advance])

@[simp] theorem afterCpu_phase (s : State) : s.afterCpu.phase = s.phase :=
  afterCpu_keeps (P := fun t => t.phase = s.phase) rfl (by simp [State.interruptEntry, State.callTo])
    (by simp [State.executed, State.advance])

@[simp] theorem afterCpu_soundOutput (s : State) : s.afterCpu.soundOutput = s.soundOutput :=
  afterCpu_keeps (P := fun t => t.soundOutput = s.soundOutput) rfl (by simp [State.interruptEntry, State.callTo])
    (by simp [State.executed, State.advance])

@[simp] theorem afterCpu_yields (s : State) : s.afterCpu.yields = s.yields :=
  afterCpu_keeps (P := fun t => t.yields = s.yields) rfl (by simp [State.interruptEntry, State.callTo])
    (by simp [State.executed, State.advance])

/-- The CPU's part leaves no vector pending: a pending one is consumed, and it raises none (R254). -/
@[simp] theorem afterCpu_pending (s : State) : s.afterCpu.pending = none := by
  unfold State.afterCpu
  split
  · exact interruptEntry_pending s _
  · split
    · assumption
    · simpa [State.executed, State.advance] using ‹s.pending = none›

theorem executed_ie_other (hei : s.fetched ≠ .ei) (hdi : s.fetched ≠ .di) : s.executed.ie = s.ie :=
  effect_ie_other _ (mt form_eq_ei.mp hei) (mt form_eq_di.mp hdi)

theorem executed_ie_ei (h : s.fetched = .ei) : s.executed.ie = true := by
  rw [State.executed, h]
  rfl

theorem executed_ie_di (h : s.fetched = .di) : s.executed.ie = false := by
  rw [State.executed, h]
  rfl

theorem executed_halted_other (h : s.fetched ≠ .hlt) : s.executed.halted = s.halted :=
  effect_halted_other _ (mt form_eq_hlt.mp h)

theorem executed_fault_other (h : ∀ op, s.fetched ≠ .unsupported op) : s.executed.fault = s.fault :=
  effect_fault_other _ fun op => mt form_eq_unsupported.mp (h op)

/-- The fatal error stops the instruction before anything else happens (R241). -/
theorem executed_unsupported {op : Byte} (h : s.fetched = .unsupported op) :
    s.executed = (s.advance (.unsupported op)).raiseFatal (.unsupportedOpcode (s.advance (.unsupported op)).pc op) := by
  rw [State.executed, h]
  rfl

/-- A byte without an instruction is the only source of the fatal error (R241). -/
theorem afterCpu_fault (h : s.live) (hf : s.afterCpu.fault ≠ none) :
    s.fetching ∧ ∃ op, s.fetched = .unsupported op := by
  rcases afterCpu_cases h with ⟨v, -, he⟩ | ⟨-, -, he⟩ | ⟨hfetch, he⟩ <;> rw [he] at hf
  · exact absurd (by simp [State.interruptEntry, State.callTo, h.1]) hf
  · exact absurd h.1 hf
  · by_contra hun
    exact hf ((executed_fault_other fun op hop => hun ⟨hfetch, op, hop⟩).trans h.1)

/-- The CPU's part appends sound events only by an OUT (R44, R287). -/
theorem afterCpu_soundEvents (h : s.live) : ∃ l, s.afterCpu.soundEvents = s.soundEvents ++ l ∧
    (l ≠ [] → s.fetching ∧ ∃ p, s.fetched = .outPort p) := by
  rcases afterCpu_cases h with ⟨v, -, he⟩ | ⟨-, -, he⟩ | ⟨hfetch, he⟩ <;> rw [he]
  · exact ⟨[], by simp [State.interruptEntry, State.callTo], absurd rfl⟩
  · exact ⟨[], by simp, absurd rfl⟩
  · obtain ⟨l, hl, hout⟩ := executed_soundEvents s
    exact ⟨l, hl, fun hne => ⟨hfetch, hout hne⟩⟩

/-! ### The scheduler's part -/

theorem midFrame_pending (u : State) : u.midFrame.pending = (u.raiseInterrupt u.config.midVector).pending := by
  rw [State.midFrame, setPacing_pending, setPhase_pending]

theorem yield_pending (u : State) : u.yield.pending = u.pending := by
  simp [State.yield, State.drainSound]

theorem endOfFrame_pending (u : State) : u.endOfFrame.pending = (u.raiseInterrupt u.config.endVector).pending := by
  rw [State.endOfFrame, setPacing_pending, setPhase_pending, yield_pending]

/-- The vector found pending where none was is the one raised, and IE is set (R252). -/
theorem raiseInterrupt_pending_some {u : State} {v w : BitVec 3} (hu : u.pending = none)
    (h : (u.raiseInterrupt w).pending = some v) : u.ie = true ∧ v = w := by
  rw [raiseInterrupt_pending, hu, Option.ite_none_right_eq_some] at h
  exact ⟨h.1, (Option.some.inj h.2).symm⟩

/-- A vector pending after the scheduler's part was raised by the event that came due (R252, R272, R273). -/
theorem schedule_pending_some {u : State} {c : Nat} {v : BitVec 3} (hu : u.pending = none)
    (h : (u.schedule c).pending = some v) :
    u.ie = true ∧ (u.schedule c).halfCycles = 0 ∧
      ((u.phase = .first ∧ (u.schedule c).phase = .second ∧ v = u.config.midVector) ∨
       (u.phase = .second ∧ (u.schedule c).phase = .first ∧ v = u.config.endVector)) := by
  rcases schedule_cases u c with ⟨-, he⟩ | ⟨-, hph, he⟩ | ⟨-, hph, he⟩ <;> rw [he] at h ⊢
  case inl => exact absurd (hu.symm.trans h) nofun
  case inr.inl =>
    rw [midFrame_pending] at h
    obtain ⟨hie, hv⟩ := raiseInterrupt_pending_some (u := u.countCycles c) hu h
    exact ⟨hie, rfl, .inl ⟨hph, rfl, hv⟩⟩
  case inr.inr =>
    rw [endOfFrame_pending] at h
    obtain ⟨hie, hv⟩ := raiseInterrupt_pending_some (u := u.countCycles c) hu h
    exact ⟨hie, rfl, .inr ⟨hph, rfl, hv⟩⟩

/-- The half counter is cleared by every event, and counts on below the budget (R271 to R273). -/
theorem schedule_halfCycles (u : State) (c : Nat) : (u.schedule c).halfCycles =
    if u.config.halfBudget ≤ u.halfCycles + c then 0 else u.halfCycles + c := by
  rcases schedule_cases u c with ⟨h, he⟩ | ⟨h, -, he⟩ | ⟨h, -, he⟩ <;> rw [he]
  · exact (if_neg (Nat.not_le.mpr h)).symm
  · exact (if_pos h).symm
  · exact (if_pos h).symm

theorem schedule_input_portWf {u : State} (h : u.input.portWf = true) (c : Nat) :
    (u.schedule c).input.portWf = true := by
  rcases schedule_cases u c with ⟨-, he⟩ | ⟨-, -, he⟩ | ⟨-, -, he⟩ <;> rw [he]
  · exact h
  · simpa [State.midFrame, State.countCycles] using h
  · exact portWf_sampleInputs (by simpa [State.countCycles] using h) _

end Sys2Proof.Machine

namespace Sys2Proof.Proofs

open Machine

/-- Settles O51: IE and `halted` are not the scheduler's, and the CPU's part writes them in interrupt entry, EI, DI and HLT. -/
theorem writersOfIeAndHalted : Obligations.WritersOfIeAndHalted := by
  intro s t h
  rw [step_blind blind_ie h, step_blind blind_halted h]
  rcases afterCpu_cases (step_afterCpu h).1 with ⟨v, hp, he⟩ | ⟨hp, hh, he⟩ | ⟨hf, he⟩ <;> rw [he]
  case inl =>
    have hne : s.pending ≠ none := by simp [hp]
    rw [interruptEntry_ie, interruptEntry_halted]
    exact ⟨nofun, fun _ => .inr (.inl hne), nofun, fun _ => .inr hne⟩
  case inr.inl => exact ⟨.inl, .inl, .inl, .inl⟩
  case inr.inr =>
    refine ⟨fun hie => ?ieSet, fun hie => ?ieClear, fun hh => ?haltedSet, fun _ => .inl hf.2.2⟩
    case ieSet =>
      by_cases hei : s.fetched = .ei
      · exact .inr ⟨hf, hei⟩
      · by_cases hdi : s.fetched = .di
        · exact absurd hie (by simp [executed_ie_di hdi])
        · exact .inl (executed_ie_other hei hdi ▸ hie)
    case ieClear =>
      by_cases hdi : s.fetched = .di
      · exact .inr (.inr ⟨hf, hdi⟩)
      · by_cases hei : s.fetched = .ei
        · exact absurd hie (by simp [executed_ie_ei hei])
        · exact .inl (executed_ie_other hei hdi ▸ hie)
    case haltedSet =>
      by_cases hhlt : s.fetched = .hlt
      · exact .inr ⟨hf, hhlt⟩
      · exact .inl (executed_halted_other hhlt ▸ hh)

/-- Settles O52: the CPU's part leaves nothing pending, so the event that came due raised the vector. -/
theorem pendingOnlyFromScheduler : Obligations.PendingOnlyFromScheduler := by
  intro s t v h hv
  rcases (step_afterCpu h).2 with ⟨-, rfl⟩ | ⟨-, rfl⟩
  · exact absurd hv (by simp)
  · have hraised := schedule_pending_some (afterCpu_pending s) hv
    rwa [afterCpu_phase, afterCpu_config, ← schedule_ie s.afterCpu (cpuCycles s)] at hraised

/-- Settles O53: memory is not the scheduler's, and the CPU's part stores in interrupt entry and where the instruction does. -/
theorem writersOfMemory : Obligations.WritersOfMemory := by
  intro s t a h hne
  rw [read8_eq_of_mem (step_blind blind_mem h) a] at hne
  rcases afterCpu_cases (step_afterCpu h).1 with ⟨v, hp, he⟩ | ⟨-, -, he⟩ | ⟨hf, he⟩ <;> rw [he] at hne
  · exact .inl ⟨by simp [hp], by_contra fun ha => hne (interruptEntry_read8_other s v ha)⟩
  · exact absurd rfl hne
  · exact .inr ⟨hf, by_contra fun ha => hne (effect_read8_other (s.advance s.fetched) ha)⟩

end Sys2Proof.Proofs
end

section
/-! SUPPORT. The yield (60_exceptions.md R275): the input snapshots it replaces. -/

namespace Sys2Proof.Machine

/-- Each listed port takes the host's byte, whatever the order of the list and its repeats. -/
theorem get_foldl_set_ports (g : Byte → Byte) (ports : List Byte) (m : Cells) (p : Byte) :
    Cells.get (ports.foldl (fun m p => Cells.set m p.toNat (g p)) m) p.toNat =
      if p ∈ ports then g p else Cells.get m p.toNat := by
  induction ports generalizing m with
  | nil => rfl
  | cons q ports ih =>
    rw [List.foldl_cons, ih, get_set_port]
    by_cases hq : p = q <;> simp [hq]

theorem yield_inputAt (s : State) (p : Byte) :
    s.yield.inputAt p = if p ∈ s.config.inputPorts then s.nextInput p else s.inputAt p :=
  get_foldl_set_ports s.nextInput s.config.inputPorts s.input p

/-- A yield writes the sound queues, the snapshots, `run` and the model's own host fields, and nothing else. -/
theorem yield_frame (s : State) : { s.yield with
    soundOutput := s.soundOutput, soundEvents := s.soundEvents, input := s.input, run := s.run,
    hostQueue := s.hostQueue, yields := s.yields } = s := by
  simp only [State.yield, State.drainSound, State.setHost, State.setRun, State.setInput, State.setSoundOutput,
    State.setSoundEvents]

end Sys2Proof.Machine

namespace Sys2Proof.Proofs

open Machine

/-- Settles O49: the yield field by field; over a step the CPU's part appends the events of an OUT to the queue, and the scheduler's part
moves the queue to the output or leaves both. -/
theorem yieldMeetsHost : Obligations.YieldMeetsHost := by
  refine ⟨fun s => ⟨rfl, rfl, yield_inputAt s, rfl, yield_frame s⟩, fun s t h => ?step⟩
  obtain ⟨hl, hpart⟩ := step_afterCpu h
  obtain ⟨l, hevents, hout⟩ := afterCpu_soundEvents hl
  refine ⟨l, ?nothingLost, hout, ?handedOver⟩ <;> rw [List.append_assoc, ← hevents, ← afterCpu_soundOutput s]
  case nothingLost =>
    rcases hpart with ⟨-, rfl⟩ | ⟨-, rfl⟩
    · rfl
    · rcases schedule_sound s.afterCpu (cpuCycles s) with ⟨ho, he⟩ | ⟨ho, he, -⟩
      · rw [ho, he]
      · rw [ho, he, List.append_nil]
  case handedOver =>
    rcases hpart with ⟨-, rfl⟩ | ⟨-, rfl⟩
    · exact .inl rfl
    · rcases schedule_sound s.afterCpu (cpuCycles s) with ⟨ho, -⟩ | ⟨ho, he, hy⟩
      · exact .inl ho
      · exact .inr ⟨ho, he, hy.trans (congrArg (· + 1) (afterCpu_yields s))⟩

end Sys2Proof.Proofs
end

section
/-! SUPPORT. Every step takes time: the counts of the cycle table and of the parameters (70_reset_and_hazards.md R320,
93_implementation_defined.md U10). -/

namespace Sys2Proof

/-- The counts that well-formed parameters make positive (U10). -/
theorem Config.counts_pos {c : Config} (hc : c.wf = true) :
    1 ≤ c.halfBudget ∧ 1 ≤ c.haltIdleCycles ∧ ∀ e ∈ c.cycleOverrides, 1 ≤ e.notTaken ∧ 1 ≤ e.taken := by
  simp only [Config.wf, Bool.and_eq_true, List.all_eq_true, decide_eq_true_eq] at hc
  obtain ⟨⟨⟨⟨⟨hhalf, hidle⟩, hcycles⟩, -⟩, -⟩, -⟩ := hc
  exact ⟨hhalf, hidle, hcycles⟩

/-! ### The opcode bytes of the families (R91 to R95, R110) -/

/-- In the pattern of R91 with three-bit fields the twelve bytes have `op[2:0]` 0 in quadrant 00, and 1, 3 or 5 in quadrant 11. -/
theorem octal_supported : ∀ (q : BitVec 2) (y z : BitVec 3), (q = 0 → z ≠ 0) → (q = 3 → z ≠ 1 ∧ z ≠ 3 ∧ z ≠ 5) →
    octal q y z ∉ unsupportedBytes := by
  decide

/-- The patterns with a two-bit pair field, in quadrant 00 and in quadrant 11 (PUSH and POP). -/
theorem pairByte_supported : ∀ (q p : BitVec 2) (z : BitVec 4), (q = 0 → z ≠ 0 ∧ z ≠ 8) → (q = 3 → z = 1 ∨ z = 5) →
    q = 0 ∨ q = 3 → pairByte q p z ∉ unsupportedBytes := by
  decide

/-- The opcode byte of a documented family is none of the twelve bytes. -/
theorem form_opcode_supported {x : Form} (hx : ∀ op, x ≠ .unsupported op) : x.opcode ∉ unsupportedBytes := by
  cases x
  case unsupported op => exact absurd rfl (hx op)
  case mov | alu => exact octal_supported _ _ _ nofun nofun
  case mvi | aluImm | inr | dcr | jcc | ccc | rcc | rst => exact octal_supported _ _ _ (by decide) (by decide)
  case lxi | ldax | stax | inx | dcx | dad | push | pop => exact pairByte_supported _ _ _ (by decide) (by decide) (by decide)
  all_goals exact of_decide_eq_true rfl

end Sys2Proof

namespace Sys2Proof.Machine

/-! ### Cycle counts -/

/-- Every cell of the default table holds a count, but for the twelve bytes without an instruction (R320). -/
theorem cycleTable_pos : ∀ op : Byte, op ∉ unsupportedBytes → 1 ≤ cycleTable.getD op.toNat 0 := by
  decide +kernel

theorem defaultCycles_pos {op : Byte} (h : op ∉ unsupportedBytes) (taken : Bool) : 1 ≤ defaultCycles op taken := by
  unfold defaultCycles
  split
  · decide
  · split
    · decide
    · exact cycleTable_pos op h

theorem cyclesOf_pos {c : Config} (hc : c.wf = true) {op : Byte} (h : op ∉ unsupportedBytes) (taken : Bool) :
    1 ≤ cyclesOf c op taken := by
  obtain ⟨-, -, hoverride⟩ := Config.counts_pos hc
  unfold cyclesOf
  split
  · next e he =>
    obtain ⟨hnot, htaken⟩ := hoverride e (List.mem_of_find?_eq_some he)
    split
    · exact htaken
    · exact hnot
  · exact defaultCycles_pos h taken

/-- A fetched instruction that raised no fatal error is a documented one. -/
theorem fetched_form_documented {s : State} (h : s.executed.fault = none) (op : Byte) : s.fetched.form ≠ .unsupported op := by
  intro hop
  rw [executed_unsupported (form_eq_unsupported.mp hop)] at h
  cases h

/-- The CPU's part of a step counts at least one cycle, unless it raises the fatal error (R271). -/
theorem cpuCycles_pos {s : State} (hc : s.config.wf = true) (hf : s.afterCpu.fault = none) : 1 ≤ cpuCycles s := by
  unfold State.afterCpu at hf
  unfold cpuCycles
  cases hp : s.pending with
  | some v => exact cyclesOf_pos hc (form_opcode_supported (x := .rst v) nofun) false
  | none =>
    cases hh : s.halted with
    | true => exact (Config.counts_pos hc).2.1
    | false =>
      rw [hp, hh] at hf
      exact cyclesOf_pos hc (form_opcode_supported (fetched_form_documented hf)) _

end Sys2Proof.Machine

namespace Sys2Proof.Proofs

open Machine

/-- Settles O56: the CPU's part leaves the total, and the scheduler's part adds the cycles of the step, at least one. -/
theorem everyStepCountsCycles : Obligations.EveryStepCountsCycles := by
  intro s t hc h hfault
  rcases (step_afterCpu h).2 with ⟨hf, rfl⟩ | ⟨hf, rfl⟩
  · exact absurd hfault hf
  · rw [schedule_totalCycles, afterCpu_totalCycles]
    exact Nat.lt_add_of_pos_right (cpuCycles_pos hc hf)

end Sys2Proof.Proofs
end

section
/-! SUPPORT. The invariant (Sys2Proof/Safety.lean) over a step, part by part of the state. -/

namespace Sys2Proof.Machine

variable {s t : State}

/-! ### Sound latches -/

/-- An instruction leaves the sound latches, or it is the write of a port (R43). -/
theorem effect_soundLatch_cases (s : State) (x : Form) :
    (effect x s).soundLatch = s.soundLatch ∨ ∃ p v, effect x s = s.portOut p v := by
  by_cases hx : ∃ p, x = .outPort p
  · obtain ⟨p, rfl⟩ := hx
    exact .inr ⟨p, s.reg .a, rfl⟩
  · have hsame := effect_portOutputs_other s fun p hp => hx ⟨p, hp⟩
    simp only [State.portOutputs, Prod.mk.injEq] at hsame
    exact .inl hsame.2.2.1

theorem portWf_effect (h : s.soundLatch.portWf = true) (x : Form) : (effect x s).soundLatch.portWf = true := by
  rcases effect_soundLatch_cases s x with he | ⟨p, v, he⟩ <;> rw [he]
  · exact h
  · exact portWf_portOut h p v

theorem latchesMasked_effect (h : s.latchesMasked) (x : Form) : (effect x s).latchesMasked := by
  rcases effect_soundLatch_cases s x with he | ⟨p, v, he⟩
  · exact latchesMasked_of_eq he (effect_config s x) h
  · exact he ▸ latchesMasked_portOut h p v

/-! ### Each part over a step -/

/-- Memory stays canonical (R60): pushes and stores are byte writes. -/
theorem step_memWf (hm : Memory.wf s.mem = true) (h : step s = .next t) : Memory.wf t.mem = true := by
  rw [step_blind blind_mem h]
  exact afterCpu_keeps (P := fun u => Memory.wf u.mem = true) hm
    (fun _ => wf_push16 (s := ((s.setPending none).setHalted false).setIe false) hm _)
    (wf_effect (s := s.advance s.fetched) hm _)

/-- The input snapshots stay canonical (R61): only a yield writes them. -/
theorem step_inputWf (hi : s.input.portWf = true) (h : step s = .next t) : t.input.portWf = true := by
  rw [← afterCpu_input s] at hi
  rcases (step_afterCpu h).2 with ⟨-, rfl⟩ | ⟨-, rfl⟩
  · exact hi
  · exact schedule_input_portWf hi _

/-- The sound latches stay canonical: only an OUT writes them. -/
theorem step_latchWf (hl : s.soundLatch.portWf = true) (h : step s = .next t) : t.soundLatch.portWf = true := by
  rw [step_blind blind_soundLatch h]
  exact afterCpu_keeps (P := fun u => u.soundLatch.portWf = true) hl
    (fun v => (interruptEntry_soundLatch s v).symm ▸ hl) (portWf_effect (s := s.advance s.fetched) hl _)

/-- The sound latches stay within their masks (R43). -/
theorem step_latchesMasked (hl : s.latchesMasked) (h : step s = .next t) : t.latchesMasked :=
  latchesMasked_of_eq (step_blind blind_soundLatch h) (step_blind blind_config h)
    (afterCpu_keeps (P := State.latchesMasked) hl
      (fun v => latchesMasked_of_eq (interruptEntry_soundLatch s v) (interruptEntry_config s v) hl)
      (latchesMasked_effect (s := s.advance s.fetched) hl _))

/-- The half counter stays below the budget: the event that is due clears it (R271). -/
theorem step_halfBelow (hb : s.config.wf = true → s.halfCycles < s.config.halfBudget) (h : step s = .next t)
    (hc : t.config.wf = true) : t.halfCycles < t.config.halfBudget := by
  rw [step_blind blind_config h, afterCpu_config] at hc ⊢
  rcases (step_afterCpu h).2 with ⟨-, rfl⟩ | ⟨-, rfl⟩
  · exact afterCpu_halfCycles s ▸ hb hc
  · rw [schedule_halfCycles, afterCpu_config]
    split
    · exact (Config.counts_pos hc).1
    · omega

/-- The cycles of this half stay among all cycles (R271). -/
theorem step_halfInTotal (hle : s.halfCycles ≤ s.totalCycles) (h : step s = .next t) : t.halfCycles ≤ t.totalCycles := by
  rw [← afterCpu_halfCycles s, ← afterCpu_totalCycles s] at hle
  rcases (step_afterCpu h).2 with ⟨-, rfl⟩ | ⟨-, rfl⟩
  · exact hle
  · rw [schedule_halfCycles, schedule_totalCycles]
    split <;> omega

/-- A step that ends in the fatal error fetched, so nothing is pending and the core is not halted (R241). -/
theorem step_fatalFromFetch (h : step s = .next t) (hfault : t.fault ≠ none) : t.pending = none ∧ t.halted = false := by
  obtain ⟨hl, ⟨hf, rfl⟩ | ⟨hf, rfl⟩⟩ := step_afterCpu h
  · obtain ⟨hfetch, op, hop⟩ := afterCpu_fault hl hf
    have hhlt : s.fetched ≠ .hlt := by simp [hop]
    refine ⟨afterCpu_pending s, ?_⟩
    rw [afterCpu_fetching hfetch, executed_halted_other hhlt]
    exact hfetch.2.2
  · exact absurd ((schedule_fault _ _).trans hf) hfault

end Sys2Proof.Machine

namespace Sys2Proof.Proofs

open Machine

/-- Settles O60: each part of the invariant by the part of the step that writes the state it speaks of. -/
theorem invariantKeptByEveryStep : Obligations.InvariantKeptByEveryStep := by
  intro s t hs h
  have hraised (hp : t.pending ≠ none) : t.ie = true ∧ t.halfCycles = 0 := by
    obtain ⟨v, hv⟩ := Option.ne_none_iff_exists'.mp hp
    obtain ⟨hie, hhalf, -⟩ := pendingOnlyFromScheduler s t v h hv
    exact ⟨hie, hhalf⟩
  exact {
    memWf := step_memWf hs.memWf h
    inputWf := step_inputWf hs.inputWf h
    latchWf := step_latchWf hs.latchWf h
    latchMasked := step_latchesMasked hs.latchMasked h
    pendingEnabled := fun hp => (hraised hp).1
    pendingFresh := fun hp => (hraised hp).2
    halfBelow := step_halfBelow hs.halfBelow h
    halfInTotal := step_halfInTotal hs.halfInTotal h
    fatalFromFetch := step_fatalFromFetch h }

end Sys2Proof.Proofs
end

section
/-! SUPPORT. Reset: what the loader leaves in memory (70_reset_and_hazards.md R300). -/

namespace Sys2Proof.Machine

/-- Bytes loaded from an address on read back there, and no other byte changes. -/
theorem get_loadBytes (m : Memory) (a : Nat) (l : List Byte) (k : Nat) :
    Cells.get (loadBytes m a l) k = if a ≤ k ∧ k < a + l.length then l.getD (k - a) 0 else Cells.get m k := by
  induction l generalizing m a with
  | nil => exact (if_neg (by simp only [List.length_nil]; omega)).symm
  | cons v rest ih =>
    rw [loadBytes, ih, get_set, List.length_cons]
    rcases Nat.lt_trichotomy k a with hlt | rfl | hgt
    · rw [if_neg (by omega), if_neg (by omega), if_neg (by omega)]
    · rw [if_neg (by omega), if_pos rfl, if_pos (by omega), Nat.sub_self, List.getD_cons_zero]
    · have hsub : k - a = k - (a + 1) + 1 := by omega
      rw [if_neg (Nat.ne_of_gt hgt), hsub, List.getD_cons_succ]
      exact if_congr (by omega) rfl rfl

theorem get_loadImage (c : Config) (m : Memory) (image : List Byte) (k : Nat) :
    Cells.get (loadImage c m image) k =
      if k < c.programRegionSize ∧ k < image.length then image.getD k 0 else Cells.get m k := by
  simp only [loadImage, get_loadBytes, List.length_take, Nat.zero_add, Nat.sub_zero, Nat.lt_min, Nat.zero_le, true_and]
  split
  · next h => rw [List.getD_eq_getElem?_getD, List.getElem?_take_of_lt h.1, List.getD_eq_getElem?_getD]
  · rfl

end Sys2Proof.Machine

namespace Sys2Proof.Proofs

open Machine

/-- Settles O57: the fields as `State.powerOn` lists them, memory by what the loader leaves. -/
theorem resetValues : Obligations.ResetValues := by
  intro c image d s
  refine ⟨rfl, rfl, rfl, rfl, rfl, rfl, rfl, rfl, rfl, rfl, rfl, fun p => rfl, rfl, rfl, rfl, rfl, rfl, rfl, fun a => ?_⟩
  exact get_loadImage c d.mem image a.toNat

/-- Settles O58: no image writes no byte, and every other field is the same constant. -/
theorem resetIsTheZeroDraw : Obligations.ResetIsTheZeroDraw := rfl

/-- Settles O59: nothing is listed, pending or counted at reset. -/
theorem invariantAtReset : Obligations.InvariantAtReset where
  memWf := rfl
  inputWf := rfl
  latchWf := rfl
  latchMasked := fun _ => BitVec.zero_and
  pendingEnabled := fun h => absurd rfl h
  pendingFresh := fun _ => rfl
  halfBelow := fun _ => by decide
  halfInTotal := Nat.le_refl 0
  fatalFromFetch := fun _ => ⟨rfl, rfl⟩

end Sys2Proof.Proofs
end

section
/-! SUPPORT. Memory read after write (20_memory.md R63 to R67), and the bytes no write reaches under `RomWritePolicy = ignore` (R63). -/

namespace Sys2Proof

theorem hiByte_toNat (w : Word) : (hiByte w).toNat = w.toNat / 256 := by
  have hw : w.toNat < 65536 := w.isLt
  rw [hiByte, BitVec.extractLsb'_toNat, Nat.shiftRight_eq_div_pow]
  exact Nat.mod_eq_of_lt (by omega)

theorem loByte_toNat (w : Word) : (loByte w).toNat = w.toNat % 256 :=
  BitVec.extractLsb'_toNat 0 8 w

end Sys2Proof

namespace Sys2Proof.Machine

/-- Which writes are dropped (R63). -/
theorem dropsWrite_iff {c : Config} {a : Word} :
    dropsWrite c a = true ↔ a.toNat < c.programRegionSize ∧ c.romWritePolicy = .ignore := by
  cases h : c.romWritePolicy <;> simp [dropsWrite, h]

/-- A byte write touches memory only. -/
theorem write8_frame (s : State) (a : Word) (v : Byte) : { s.write8 a v with mem := s.mem } = s := by
  rcases write8_cases s a v with ⟨-, he⟩ | ⟨-, he⟩ <;> rw [he]
  rfl

/-- The byte at an address whose writes are dropped, and nothing at any other address: the view in which no byte write is seen. -/
def State.protectedByte (a : Word) (s : State) : Option Byte :=
  if dropsWrite s.config a then some (s.read8 a) else none

theorem protectedByte_dropped {s : State} {a : Word} (h : dropsWrite s.config a = true) :
    s.protectedByte a = some (s.read8 a) :=
  if_pos h

theorem protectedByte_write8 (a : Word) (s : State) (b : Word) (v : Byte) :
    (s.write8 b v).protectedByte a = s.protectedByte a := by
  rw [State.protectedByte, State.protectedByte, write8_config]
  split
  · next hdrop =>
    have hread : (s.write8 b v).read8 a = s.read8 a := by
      rw [read8_write8, if_neg]
      rintro ⟨rfl, hkept⟩
      simp [hkept] at hdrop
    rw [hread]
  · rfl

theorem blindToCpu_protectedByte (a : Word) : BlindToCpu (State.protectedByte a) :=
  ⟨fun _ _ _ => rfl, fun _ _ => rfl, fun _ _ => rfl, fun _ _ => rfl, protectedByte_write8 a⟩

theorem blind_protectedByte (a : Word) : BlindToScheduler (State.protectedByte a) :=
  ⟨fun _ _ => rfl, fun _ _ _ => rfl, fun _ _ => rfl, fun _ _ => rfl, fun _ _ => rfl, fun _ _ => rfl, fun _ _ => rfl,
    fun _ _ _ => rfl⟩

/-- No instruction changes a byte whose writes are dropped (R63). -/
theorem effect_protectedByte (a : Word) (s : State) (x : Form) : (effect x s).protectedByte a = s.protectedByte a := by
  cases x
  case outPort =>
    exact portOut_other s _ _ (State.protectedByte a) (fun _ _ => rfl) (fun _ _ => rfl) (fun _ _ => rfl) (fun _ _ => rfl)
  case ei | di | hlt | unsupported => rfl
  all_goals exact effect_blind s (blindToCpu_protectedByte a) _ rfl

/-- Nor does interrupt entry, which stores what RST stores (R253). -/
theorem interruptEntry_protectedByte (a : Word) (s : State) (v : BitVec 3) :
    (s.interruptEntry v).protectedByte a = s.protectedByte a :=
  effect_protectedByte a (((s.setPending none).setHalted false).setIe false) (.rst v)

theorem afterCpu_protectedByte (a : Word) (s : State) : s.afterCpu.protectedByte a = s.protectedByte a :=
  afterCpu_keeps (P := fun u => u.protectedByte a = s.protectedByte a) rfl (interruptEntry_protectedByte a s)
    (effect_protectedByte a (s.advance s.fetched) _)

end Sys2Proof.Machine

namespace Sys2Proof.Proofs

open Machine

/-- Settles O54: the parameters and the bytes whose writes are dropped are seen neither by the CPU's part nor by the scheduler's. -/
theorem programRegionProtected : Obligations.ProgramRegionProtected := by
  intro s t hignore h
  have hconfig : t.config = s.config := (step_blind blind_config h).trans (afterCpu_config s)
  refine ⟨hconfig, fun a ha => ?_⟩
  have hdrop : dropsWrite s.config a = true := dropsWrite_iff.mpr ⟨ha, hignore⟩
  have hbyte : t.protectedByte a = s.protectedByte a :=
    (step_blind (blind_protectedByte a) h).trans (afterCpu_protectedByte a s)
  rw [protectedByte_dropped hdrop, protectedByte_dropped (hconfig ▸ hdrop)] at hbyte
  exact Option.some.inj hbyte

/-- Settles O31: read after write with the dropped case, the frame of a byte write, and the two bytes of a word in naturals. -/
theorem memoryReadWrite : Obligations.MemoryReadWrite := by
  intro s a b v w
  refine ⟨?readBack, write8_frame s a v, word16_toNat _ _, ?wordWrite⟩
  case readBack => simp only [read8_write8, ← dropsWrite_iff, Bool.not_eq_true]
  case wordWrite => simp [State.write16, ← loByte_toNat, ← hiByte_toNat]

/-- Settles O41: an instruction is the effect of its family, which leaves every byte it does not store to. -/
theorem memoryFrame : Obligations.MemoryFrame := by
  intro i s t a h ha
  rw [exec_next h]
  exact effect_read8_other s ha

end Sys2Proof.Proofs
end

section
/-! SUPPORT. Decoding and encoding are inverse (30_encoding.md R101, R105), and the heads of an instruction rule by its family: the encoding
line, the cycles line and the effect. -/

namespace Sys2Proof.Laws.RoundTrip

/-- The round trip of every instruction: one law for each constructor. -/
theorem every : ∀ i : Instr, Statement i
  | .unsupported opcode => unsupported opcode
  -- 0x00 to 0x0F
  | .nop => nop | .lxiB d16 => lxiB d16 | .staxB => staxB | .inxB => inxB | .inrB => inrB | .dcrB => dcrB | .mviB d8 => mviB d8
  | .rlc => rlc | .dadB => dadB | .ldaxB => ldaxB | .dcxB => dcxB | .inrC => inrC | .dcrC => dcrC | .mviC d8 => mviC d8
  | .rrc => rrc
  -- 0x10 to 0x1F
  | .lxiD d16 => lxiD d16 | .staxD => staxD | .inxD => inxD | .inrD => inrD | .dcrD => dcrD | .mviD d8 => mviD d8 | .ral => ral
  | .dadD => dadD | .ldaxD => ldaxD | .dcxD => dcxD | .inrE => inrE | .dcrE => dcrE | .mviE d8 => mviE d8 | .rar => rar
  -- 0x20 to 0x2F
  | .lxiH d16 => lxiH d16 | .shld a16 => shld a16 | .inxH => inxH | .inrH => inrH | .dcrH => dcrH | .mviH d8 => mviH d8
  | .daa => daa | .dadH => dadH | .lhld a16 => lhld a16 | .dcxH => dcxH | .inrL => inrL | .dcrL => dcrL | .mviL d8 => mviL d8
  | .cma => cma
  -- 0x30 to 0x3F
  | .lxiSp d16 => lxiSp d16 | .sta a16 => sta a16 | .inxSp => inxSp | .inrM => inrM | .dcrM => dcrM | .mviM d8 => mviM d8
  | .stc => stc | .dadSp => dadSp | .lda a16 => lda a16 | .dcxSp => dcxSp | .inrA => inrA | .dcrA => dcrA | .mviA d8 => mviA d8
  | .cmc => cmc
  -- 0x40 to 0x4F
  | .movBB => movBB | .movBC => movBC | .movBD => movBD | .movBE => movBE | .movBH => movBH | .movBL => movBL | .movBM => movBM
  | .movBA => movBA | .movCB => movCB | .movCC => movCC | .movCD => movCD | .movCE => movCE | .movCH => movCH | .movCL => movCL
  | .movCM => movCM | .movCA => movCA
  -- 0x50 to 0x5F
  | .movDB => movDB | .movDC => movDC | .movDD => movDD | .movDE => movDE | .movDH => movDH | .movDL => movDL | .movDM => movDM
  | .movDA => movDA | .movEB => movEB | .movEC => movEC | .movED => movED | .movEE => movEE | .movEH => movEH | .movEL => movEL
  | .movEM => movEM | .movEA => movEA
  -- 0x60 to 0x6F
  | .movHB => movHB | .movHC => movHC | .movHD => movHD | .movHE => movHE | .movHH => movHH | .movHL => movHL | .movHM => movHM
  | .movHA => movHA | .movLB => movLB | .movLC => movLC | .movLD => movLD | .movLE => movLE | .movLH => movLH | .movLL => movLL
  | .movLM => movLM | .movLA => movLA
  -- 0x70 to 0x7F
  | .movMB => movMB | .movMC => movMC | .movMD => movMD | .movME => movME | .movMH => movMH | .movML => movML | .hlt => hlt
  | .movMA => movMA | .movAB => movAB | .movAC => movAC | .movAD => movAD | .movAE => movAE | .movAH => movAH | .movAL => movAL
  | .movAM => movAM | .movAA => movAA
  -- 0x80 to 0x8F
  | .addB => addB | .addC => addC | .addD => addD | .addE => addE | .addH => addH | .addL => addL | .addM => addM | .addA => addA
  | .adcB => adcB | .adcC => adcC | .adcD => adcD | .adcE => adcE | .adcH => adcH | .adcL => adcL | .adcM => adcM | .adcA => adcA
  -- 0x90 to 0x9F
  | .subB => subB | .subC => subC | .subD => subD | .subE => subE | .subH => subH | .subL => subL | .subM => subM | .subA => subA
  | .sbbB => sbbB | .sbbC => sbbC | .sbbD => sbbD | .sbbE => sbbE | .sbbH => sbbH | .sbbL => sbbL | .sbbM => sbbM | .sbbA => sbbA
  -- 0xA0 to 0xAF
  | .anaB => anaB | .anaC => anaC | .anaD => anaD | .anaE => anaE | .anaH => anaH | .anaL => anaL | .anaM => anaM | .anaA => anaA
  | .xraB => xraB | .xraC => xraC | .xraD => xraD | .xraE => xraE | .xraH => xraH | .xraL => xraL | .xraM => xraM | .xraA => xraA
  -- 0xB0 to 0xBF
  | .oraB => oraB | .oraC => oraC | .oraD => oraD | .oraE => oraE | .oraH => oraH | .oraL => oraL | .oraM => oraM | .oraA => oraA
  | .cmpB => cmpB | .cmpC => cmpC | .cmpD => cmpD | .cmpE => cmpE | .cmpH => cmpH | .cmpL => cmpL | .cmpM => cmpM | .cmpA => cmpA
  -- 0xC0 to 0xCF
  | .rnz => rnz | .popB => popB | .jnz a16 => jnz a16 | .jmp a16 => jmp a16 | .cnz a16 => cnz a16 | .pushB => pushB
  | .adi d8 => adi d8 | .rst0 => rst0 | .rz => rz | .ret => ret | .jz a16 => jz a16 | .cz a16 => cz a16 | .call a16 => call a16
  | .aci d8 => aci d8 | .rst1 => rst1
  -- 0xD0 to 0xDF
  | .rnc => rnc | .popD => popD | .jnc a16 => jnc a16 | .outPort p8 => outPort p8 | .cnc a16 => cnc a16 | .pushD => pushD
  | .sui d8 => sui d8 | .rst2 => rst2 | .rc => rc | .jc a16 => jc a16 | .inPort p8 => inPort p8 | .cc a16 => cc a16
  | .sbi d8 => sbi d8 | .rst3 => rst3
  -- 0xE0 to 0xEF
  | .rpo => rpo | .popH => popH | .jpo a16 => jpo a16 | .xthl => xthl | .cpo a16 => cpo a16 | .pushH => pushH | .ani d8 => ani d8
  | .rst4 => rst4 | .rpe => rpe | .pchl => pchl | .jpe a16 => jpe a16 | .xchg => xchg | .cpe a16 => cpe a16 | .xri d8 => xri d8
  | .rst5 => rst5
  -- 0xF0 to 0xFF
  | .rp => rp | .popPsw => popPsw | .jp a16 => jp a16 | .di => di | .cp a16 => cp a16 | .pushPsw => pushPsw | .ori d8 => ori d8
  | .rst6 => rst6 | .rm => rm | .sphl => sphl | .jm a16 => jm a16 | .ei => ei | .cm a16 => cm a16 | .cpi d8 => cpi d8
  | .rst7 => rst7

end Sys2Proof.Laws.RoundTrip

namespace Sys2Proof

/-! ### Encode after decode -/

/-- What the map R101 says cell by cell, it says of the instruction decoded. -/
theorem decodeBytes_of_cells {α : Type} {f : Instr → α} {g : Byte → α} {b2 b3 : Byte}
    (h : opcodeMap.map (fun cell => f (cell b2 b3)) = (List.range 256).map fun k => g (BitVec.ofNat 8 k)) (op : Byte) :
    f (decodeBytes op b2 b3) = g op := by
  have hcell : f (decodeBytes op b2 b3) =
      (opcodeMap.map fun cell => f (cell b2 b3)).getD op.toNat (f (.unsupported op)) :=
    (List.getD_map opcodeMap (unsupp op) fun cell : Byte → Byte → Instr => f (cell b2 b3)).symm
  have hop : op.toNat < 256 := op.isLt
  rw [hcell, h]
  simp [List.getD, hop]

/-- An encoding takes up one, two or three bytes (R105). -/
theorem encodedLength_cases (op : Byte) : encodedLength op = 1 ∨ encodedLength op = 2 ∨ encodedLength op = 3 := by
  unfold encodedLength opcodeLength
  split_ifs <;> decide

/-- The operand bytes as an instruction of `n` bytes gives them back: a 16-bit operand is taken apart again (R96, R97). -/
def operandsHeld (n : Nat) (b2 b3 : Byte) : List Byte :=
  match n with
  | 2 => [b2]
  | 3 => [loByte (word16 b3 b2), hiByte (word16 b3 b2)]
  | _ => []

theorem cons_operandsHeld (op b2 b3 : Byte) :
    op :: operandsHeld (encodedLength op) b2 b3 = [op, b2, b3].take (encodedLength op) := by
  rcases encodedLength_cases op with h | h | h <;> simp [h, operandsHeld]

set_option maxRecDepth 2000 in -- the two sides are compared along a list of 256 cells
/-- The map R101 cell by cell: each instruction encodes to the byte of its cell and the operand bytes of its length (R105). -/
theorem opcodeMap_encode (b2 b3 : Byte) : opcodeMap.map (fun cell => encode (cell b2 b3)) =
    (List.range 256).map fun k => BitVec.ofNat 8 k :: operandsHeld (encodedLength (BitVec.ofNat 8 k)) b2 b3 :=
  rfl

theorem encode_decodeBytes (op b2 b3 : Byte) : encode (decodeBytes op b2 b3) = [op, b2, b3].take (encodedLength op) :=
  calc encode (decodeBytes op b2 b3)
    _ = op :: operandsHeld (encodedLength op) b2 b3 :=
      decodeBytes_of_cells (g := fun op => op :: operandsHeld (encodedLength op) b2 b3) (opcodeMap_encode b2 b3) op
    _ = [op, b2, b3].take (encodedLength op) := cons_operandsHeld op b2 b3

/-! ### The encoding line and the cycles line of a rule, by the family -/

theorem wellFormed_of_form {i : Instr} (h : ∀ op, i.form ≠ .unsupported op) : i.wellFormed = true := by
  cases i
  case unsupported op => exact absurd rfl (h op)
  all_goals rfl

/-- A documented instruction is encoded as the pattern of its family says (R110). -/
theorem encodedAs_of_form {i : Instr} {x : Form} (hi : i.form = x) (hx : ∀ op, x ≠ .unsupported op) :
    i.encodedAs (x.opcode :: x.operandBytes) := by
  subst hi
  have h := Laws.RoundTrip.every i (wellFormed_of_form hx) []
  rwa [List.append_nil] at h

/-- Without overrides the counts are those of the default table for the opcode byte (R320). -/
theorem costs_of_opcode {i : Instr} {op : Byte} {notTaken taken : Nat} (hop : i.opcode = op)
    (hn : Machine.defaultCycles op false = notTaken) (ht : Machine.defaultCycles op true = taken) :
    i.costs notTaken taken := by
  subst hop hn ht
  intro c hc
  simp [Machine.cyclesOf, hc]

end Sys2Proof

namespace Sys2Proof.Machine

theorem exec_of_form {i : Instr} {x : Form} (hi : i.form = x) (s : State) : exec i s = .next (effect x s) :=
  hi ▸ exec_eq_effect i s

/-! ### Conditions (R95) -/

/-- Bits 2:1 of a condition code choose the flag, bit 0 the value it must have (R95). -/
theorem condHolds_eq_flag_beq (cc : Cond) (f : Flags) :
    condHolds cc f = (([f.z, f.cy, f.p, f.s].getD (cc.code.toNat / 2) false) == decide (cc.code.toNat % 2 = 1)) := by
  cases cc
  case nz | nc | po | p => exact (beq_false _).symm
  case z | c | pe | m => exact (beq_true _).symm

/-- A conditional jump costs the same, taken or not (R320). -/
theorem defaultCycles_jcc : ∀ (cc : BitVec 3) (taken : Bool), defaultCycles (octal 0b11 cc 0b010) taken = 10 := by
  decide

theorem conditionTaken_jcc {i : Instr} {cc : Cond} {a16 : Word} (hi : i.form = .jcc cc a16) (f : Flags) :
    conditionTaken i f = condHolds cc f := by
  rw [conditionTaken, hi]

end Sys2Proof.Machine

namespace Sys2Proof.Proofs

open Machine

/-- Settles O1: the laws of the single constructors, put together. -/
theorem decodeOfEncodeIsSame : Obligations.DecodeOfEncodeIsSame :=
  fun i rest hwf => Laws.RoundTrip.every i hwf rest

/-- Settles O2: the map read cell by cell. -/
theorem encodeOfDecodeIsSame : Obligations.EncodeOfDecodeIsSame :=
  encode_decodeBytes

/-- Settles O3: each word is the encoding of its instruction, so the round trip decodes it. -/
theorem specWordsDecode : Obligations.SpecWordsDecode :=
  have decoded (i : Instr) (hwf : i.wellFormed = true) := Laws.RoundTrip.every i hwf []
  ⟨decoded .movBC rfl, decoded (.mviM 0xFF) rfl, decoded (.lxiH 0x1234) rfl, decoded .sbbL rfl, decoded (.cpi 0x40) rfl,
    decoded .rar rfl, decoded (.cc 0x0400) rfl, decoded .rst2 rfl, decoded .pushPsw rfl, decoded (.outPort 0x02) rfl,
    decoded .hlt rfl, decoded (.unsupported 0x08) rfl⟩

/-- Settles O24: encoding, cycles and effect of the three families, and the condition codes one by one. -/
theorem jumpInstructions : Obligations.JumpInstructions := by
  refine ⟨condHolds_eq_flag_beq, fun a16 => ?jmp, fun i cc a16 hi => ?jcc, ?pchl⟩
  case jmp => exact ⟨encodedAs_of_form rfl nofun, costs_of_opcode (op := 0xC3) rfl rfl rfl, exec_of_form rfl⟩
  case jcc =>
    have hop : i.opcode = octal 0b11 cc.code 0b010 := congrArg Form.opcode hi
    exact ⟨encodedAs_of_form hi nofun, costs_of_opcode hop (defaultCycles_jcc _ _) (defaultCycles_jcc _ _),
      conditionTaken_jcc hi, exec_of_form hi⟩
  case pchl => exact ⟨encodedAs_of_form rfl nofun, costs_of_opcode (op := 0xE9) rfl rfl rfl, exec_of_form rfl⟩

end Sys2Proof.Proofs
end

section
/-! SUPPORT. The step that fetches a byte without an instruction (30_encoding.md R102, R103; 60_exceptions.md R241). -/

namespace Sys2Proof.Machine

variable {s t : State}

/-- What is fetched has no instruction when the map has none for its byte, or the byte is outside `ModeledOpcodes` (R102, R103). -/
theorem fetched_eq_unsupported {op : Byte} : s.fetched = .unsupported op ↔
    s.read8 s.pc = op ∧ (s.read8 s.pc ∈ unsupportedBytes ∨ s.read8 s.pc ∈ s.config.disabledOpcodes) := by
  by_cases hdis : s.read8 s.pc ∈ s.config.disabledOpcodes
  · rw [State.fetched, decodeModeled_disabled (List.contains_iff_mem.mpr hdis)]
    simp [hdis]
  · rw [State.fetched, decodeModeled_enabled (by simpa using hdis), decodeBytes_eq_unsupported]
    simp [hdis]

/-- The PC does not move past a byte without an instruction (R241; log 18). -/
theorem advance_unsupported (s : State) (op : Byte) : s.advance (.unsupported op) = s := by
  simp [State.advance, Instr.length, State.setPc]

/-- The CPU's part of a step that fetches a byte without an instruction: the fatal error at the PC and nothing else (R241). -/
theorem executed_eq_raiseFatal {op : Byte} (h : s.fetched = .unsupported op) :
    s.executed = s.raiseFatal (.unsupportedOpcode s.pc op) := by
  rw [executed_unsupported h, advance_unsupported]

theorem step_unsupported {op : Byte} (hs : s.fetching) (h : s.fetched = .unsupported op) :
    step s = .next (s.raiseFatal (.unsupportedOpcode s.pc op)) := by
  rw [step_fetching hs, executed_eq_raiseFatal h]
  rfl

/-- A step ends in the fatal error only by fetching a byte without an instruction (R244): the scheduler raises none. -/
theorem fetched_unsupported_of_step_fault (h : step s = .next t) (hfault : t.fault ≠ none) :
    s.fetching ∧ ∃ op, s.fetched = .unsupported op := by
  obtain ⟨hl, ⟨hf, -⟩ | ⟨hf, rfl⟩⟩ := step_afterCpu h
  · exact afterCpu_fault hl hf
  · exact absurd ((schedule_fault _ _).trans hf) hfault

end Sys2Proof.Machine

namespace Sys2Proof.Proofs

open Machine

/-- Settles O44: such a byte is fetched as unsupported, which raises the error on the state as it was; nothing else in a step raises it. -/
theorem unsupportedStepIsPrecise : Obligations.UnsupportedStepIsPrecise := by
  refine ⟨fun s hs hbyte => ?precise, fun s t h hfault => ?onlyWay⟩
  case precise => exact step_unsupported hs (fetched_eq_unsupported.mpr ⟨rfl, hbyte⟩)
  case onlyWay =>
    obtain ⟨hs, op, hop⟩ := fetched_unsupported_of_step_fault h hfault
    exact ⟨hs, (fetched_eq_unsupported.mp hop).2⟩

end Sys2Proof.Proofs
end

section
/-! SUPPORT. The data transfer instructions (40_data_transfer.md R120 to R132): the rule of an unconditional instruction in one piece, the
counts of the families (70_reset_and_hazards.md R320), and 16-bit moves byte by byte. -/

namespace Sys2Proof.Machine

/-- The head and the effect of an unconditional instruction's rule, read off the family. -/
theorem rule_of_form {i : Instr} {x : Form} {op : Byte} {bytes : List Byte} {cycles : Nat} {f : State → State}
    (hi : i.form = x) (hx : ∀ op, x ≠ .unsupported op) (hop : x.opcode = op) (hbytes : x.operandBytes = bytes)
    (hcycles : ∀ taken, defaultCycles op taken = cycles) (heffect : ∀ s, effect x s = f s) :
    i.encodedAs (op :: bytes) ∧ i.costs cycles cycles ∧ ∀ s, exec i s = .next (f s) := by
  subst hop hbytes
  exact ⟨encodedAs_of_form hi hx, costs_of_opcode (congrArg Form.opcode hi) (hcycles false) (hcycles true),
    fun s => (exec_of_form hi s).trans (congrArg Host.Outcome.next (heffect s))⟩

/-! ### Cycles (R320) -/

/-- Code 6 is M, and no register has it (R21). -/
theorem reg_code_ne_mem (r : Reg) : r.code ≠ Operand.mem.code := by
  cases r <;> decide

/-- The quadrant of MOV, with HLT in it: a memory operand costs two more. -/
theorem defaultCycles_mov : ∀ (dst src : BitVec 3) (taken : Bool),
    defaultCycles (octal 0b01 dst src) taken = if dst = Operand.mem.code ∨ src = Operand.mem.code then 7 else 5 := by
  decide

theorem defaultCycles_mvi : ∀ (dst : BitVec 3) (taken : Bool),
    defaultCycles (octal 0b00 dst 0b110) taken = if dst = Operand.mem.code then 10 else 7 := by
  decide

theorem defaultCycles_lxi : ∀ (p : BitVec 2) (taken : Bool), defaultCycles (pairByte 0b00 p 0b0001) taken = 10 := by
  decide

theorem defaultCycles_mov_reg_reg (dst src : Reg) (taken : Bool) :
    defaultCycles (octal 0b01 dst.code src.code) taken = 5 :=
  (defaultCycles_mov dst.code src.code taken).trans (if_neg (not_or.mpr ⟨reg_code_ne_mem dst, reg_code_ne_mem src⟩))

theorem defaultCycles_mov_reg_mem (dst : Reg) (taken : Bool) : defaultCycles (octal 0b01 dst.code 0b110) taken = 7 :=
  (defaultCycles_mov dst.code 0b110 taken).trans (if_pos (.inr rfl))

theorem defaultCycles_mov_mem (src : BitVec 3) (taken : Bool) : defaultCycles (octal 0b01 0b110 src) taken = 7 :=
  (defaultCycles_mov 0b110 src taken).trans (if_pos (.inl rfl))

theorem defaultCycles_mvi_reg (dst : Reg) (taken : Bool) : defaultCycles (octal 0b00 dst.code 0b110) taken = 7 :=
  (defaultCycles_mvi dst.code taken).trans (if_neg (reg_code_ne_mem dst))

/-! ### A 16-bit value given by its bytes -/

variable (s : State)

theorem setBc_word16 (hi lo : Byte) : s.setBc (word16 hi lo) = (s.setReg .b hi).setReg .c lo := by
  simp [State.setBc]

theorem setDe_word16 (hi lo : Byte) : s.setDe (word16 hi lo) = (s.setReg .d hi).setReg .e lo := by
  simp [State.setDe]

theorem setHl_word16 (hi lo : Byte) : s.setHl (word16 hi lo) = (s.setReg .h hi).setReg .l lo := by
  simp [State.setHl]

theorem write16_word16 (a : Word) (hi lo : Byte) : s.write16 a (word16 hi lo) = (s.write8 a lo).write8 (a + 1) hi := by
  simp [State.write16]

/-- The two registers of HL are written in either order; LHLD loads the low one first (R128). -/
theorem setHl_read16 (a : Word) : s.setHl (s.read16 a) = (s.setReg .l (s.read8 a)).setReg .h (s.read8 (a + 1)) :=
  (setHl_word16 s _ _).trans rfl

/-- XCHG register by register (R132): D may be written before L. -/
theorem exchangeDeHl_eq : s.exchangeDeHl =
    (((s.setReg .h (s.reg .d)).setReg .d (s.reg .h)).setReg .l (s.reg .e)).setReg .e (s.reg .l) :=
  calc s.exchangeDeHl
    _ = (s.setHl (word16 (s.reg .d) (s.reg .e))).setDe (word16 (s.reg .h) (s.reg .l)) := rfl
    _ = (((s.setReg .h (s.reg .d)).setReg .l (s.reg .e)).setReg .d (s.reg .h)).setReg .e (s.reg .l) := by
      rw [setHl_word16, setDe_word16]
    _ = (((s.setReg .h (s.reg .d)).setReg .d (s.reg .h)).setReg .l (s.reg .e)).setReg .e (s.reg .l) := rfl

end Sys2Proof.Machine

namespace Sys2Proof.Proofs

open Machine

/-- Settles O6: the rule of each of the three shapes of MOV, and HLT for the byte that would be the fourth. -/
theorem movCopies : Obligations.MovCopies := by
  refine ⟨fun i dst src hi => ?regReg, fun i dst hi => ?regMem, fun i src hi => ?memReg, ?hlt⟩
  case regReg => exact rule_of_form hi nofun rfl rfl (defaultCycles_mov_reg_reg dst src) fun _ => rfl
  case regMem => exact rule_of_form hi nofun rfl rfl (defaultCycles_mov_reg_mem dst) fun _ => rfl
  case memReg => exact rule_of_form hi nofun rfl rfl (defaultCycles_mov_mem src.code) fun _ => rfl
  case hlt => exact encodedAs_of_form (i := .hlt) rfl nofun

/-- Settles O7: the rules of the two shapes of MVI. -/
theorem mviLoadsImmediate : Obligations.MviLoadsImmediate := by
  refine ⟨fun i dst d8 hi => ?reg, fun d8 => ?mem⟩
  case reg => exact rule_of_form hi nofun rfl rfl (defaultCycles_mvi_reg dst) fun _ => rfl
  case mem => exact rule_of_form rfl nofun rfl rfl (by decide) fun _ => rfl

/-- Settles O8: the operand taken apart into its two bytes, and the pairs one by one. -/
theorem lxiLoadsPair : Obligations.LxiLoadsPair := by
  intro i p hi lo hform
  have hbytes : (Form.lxi p (word16 hi lo)).operandBytes = [lo, hi] := by simp [Form.operandBytes]
  refine rule_of_form hform nofun rfl hbytes (defaultCycles_lxi p.code) fun s => ?effect
  cases p
  case bc => exact setBc_word16 s hi lo
  case de => exact setDe_word16 s hi lo
  case hl => exact setHl_word16 s hi lo
  case sp => rfl

/-- Settles O9: the four rules; HL is loaded and stored byte by byte. -/
theorem directLoadsAndStores : Obligations.DirectLoadsAndStores := by
  intro a16
  refine ⟨?lda, ?sta, ?lhld, ?shld⟩
  case lda => exact rule_of_form rfl nofun rfl rfl (by decide) fun _ => rfl
  case sta => exact rule_of_form rfl nofun rfl rfl (by decide) fun _ => rfl
  case lhld => exact rule_of_form rfl nofun rfl rfl (by decide) fun s => setHl_read16 s a16
  case shld => exact rule_of_form rfl nofun rfl rfl (by decide) fun s => write16_word16 s a16 (s.reg .h) (s.reg .l)

/-- Settles O10: the five rules; the exchange register by register. -/
theorem indirectLoadsStoresExchange : Obligations.IndirectLoadsStoresExchange := by
  refine ⟨?ldaxB, ?ldaxD, ?staxB, ?staxD, ?xchg⟩
  case ldaxB => exact rule_of_form rfl nofun rfl rfl (by decide) fun _ => rfl
  case ldaxD => exact rule_of_form rfl nofun rfl rfl (by decide) fun _ => rfl
  case staxB => exact rule_of_form rfl nofun rfl rfl (by decide) fun _ => rfl
  case staxD => exact rule_of_form rfl nofun rfl rfl (by decide) fun _ => rfl
  case xchg => exact rule_of_form rfl nofun rfl rfl (by decide) exchangeDeHl_eq

end Sys2Proof.Proofs
end

section
/-! SUPPORT. The arithmetic instructions (41_arithmetic.md R141 to R161): the shared subtraction beside the addition, the counts of the
families (70_reset_and_hazards.md R320), what INR, DCR and DAD write, and the corrections of DAA. -/

namespace Sys2Proof.Machine

/-! ### The shared subtraction (R141) -/

section
variable (a b : Byte) (c : Bool)

theorem sub8_value_toNat : (sub8 a b c).value.toNat = (a.toNat + 512 - b.toNat - bitNat c) % 256 := by
  have hc := bitNat_le_one c
  rw [sub8, BitVec.toNat_ofInt]
  omega

theorem bitNat_not : bitNat (!c) = 1 - bitNat c := by
  cases c <;> rfl

/-- Subtracting is adding the complement and the complemented borrow, modulo 256. -/
theorem sub8_value_eq_add8 : (sub8 a b c).value = (add8 a (~~~b) (!c)).value := by
  have hc := bitNat_le_one c
  apply BitVec.eq_of_toNat_eq
  rw [sub8_value_toNat, add8, BitVec.toNat_ofNat, BitVec.toNat_not, bitNat_not]
  omega

/-- AC is the adder's own nibble carry (D4). -/
theorem sub8_ac_eq_add8 : (sub8 a b c).flags.ac = (add8 a (~~~b) (!c)).flags.ac := by
  have hlow : lowNibble (~~~b) = 15 - lowNibble b := by
    rw [lowNibble, BitVec.toNat_not, lowNibble]
    omega
  simp [sub8, add8, Flags.ofResult, hlow, bitNat_not]

/-- CY is the borrow: the complement of the adder's carry (D4). -/
theorem sub8_cy_eq_not_add8 : (sub8 a b c).flags.cy = !(add8 a (~~~b) (!c)).flags.cy := by
  have hc := bitNat_le_one c
  rw [sub8, add8, Flags.ofResult, Flags.ofResult, ← decide_not, decide_eq_decide, BitVec.toNat_not, bitNat_not]
  omega

theorem sub8_eq_add8 : sub8 a b c =
    { value := (add8 a (~~~b) (!c)).value,
      flags := { (add8 a (~~~b) (!c)).flags with cy := !(add8 a (~~~b) (!c)).flags.cy } } :=
  calc sub8 a b c
    _ = ⟨(sub8 a b c).value, .ofResult (sub8 a b c).value (sub8 a b c).flags.ac (sub8 a b c).flags.cy⟩ := rfl
    _ = ⟨(add8 a (~~~b) (!c)).value,
          .ofResult (add8 a (~~~b) (!c)).value (add8 a (~~~b) (!c)).flags.ac (!(add8 a (~~~b) (!c)).flags.cy)⟩ := by
      rw [sub8_value_eq_add8, sub8_ac_eq_add8, sub8_cy_eq_not_add8]
    _ = _ := rfl

end

/-! ### Cycles (R320) -/

theorem operandCycles_eq_ite (o : Operand) (register memory : Nat) :
    operandCycles o register memory = if o.code = Operand.mem.code then memory else register := by
  cases o
  case reg r => exact (if_neg (reg_code_ne_mem r)).symm
  case mem => exact (if_pos rfl).symm

/-- The quadrant of the accumulator operations: a memory operand costs three more, whatever the operation. -/
theorem defaultCycles_alu_code : ∀ (op src : BitVec 3) (taken : Bool),
    defaultCycles (octal 0b10 op src) taken = if src = Operand.mem.code then 7 else 4 := by
  decide

theorem defaultCycles_alu (op : BitVec 3) (src : Operand) (taken : Bool) :
    defaultCycles (octal 0b10 op src.code) taken = operandCycles src 4 7 :=
  (defaultCycles_alu_code op src.code taken).trans (operandCycles_eq_ite src 4 7).symm

/-- INR and DCR differ in bit 0 alone, which has no say in the count. -/
theorem defaultCycles_inr_dcr_code : ∀ (o : BitVec 3) (dcr taken : Bool),
    defaultCycles (octal 0b00 o (if dcr then 0b101 else 0b100)) taken = if o = Operand.mem.code then 10 else 5 := by
  decide

theorem defaultCycles_inr_dcr (o : Operand) (dcr taken : Bool) :
    defaultCycles (octal 0b00 o.code (if dcr then 0b101 else 0b100)) taken = operandCycles o 5 10 :=
  (defaultCycles_inr_dcr_code o.code dcr taken).trans (operandCycles_eq_ite o 5 10).symm

theorem defaultCycles_inx_dcx : ∀ (p : BitVec 2) (dcx taken : Bool),
    defaultCycles (pairByte 0b00 p (if dcx then 0b1011 else 0b0011)) taken = 5 := by
  decide

theorem defaultCycles_dad : ∀ (p : BitVec 2) (taken : Bool), defaultCycles (pairByte 0b00 p 0b1001) taken = 10 := by
  decide

/-! ### INR, DCR and DAD (R154 to R157, R160) -/

theorem inc8_eq (v : Byte) (f : Flags) : inc8 v f =
    { value := v + 1,
      flags := { z := decide (v + 1 = 0), s := (v + 1).getLsbD 7, p := parity (v + 1),
                 ac := decide (v.toNat % 16 = 15), cy := f.cy } } :=
  rfl

theorem dec8_eq (v : Byte) (f : Flags) : dec8 v f =
    { value := v - 1,
      flags := { z := decide (v - 1 = 0), s := (v - 1).getLsbD 7, p := parity (v - 1),
                 ac := decide (v.toNat % 16 ≠ 0), cy := f.cy } } := by
  rw [decide_not]
  rfl

/-- The sum in naturals, narrowed, is the sum of the words; CY alone is written among the flags (R160). -/
theorem addToHl_eq (s : State) (v : Word) : s.addToHl v =
    (s.setPair .hl (s.hl + v)).setFlags { s.flags with cy := decide (s.hl.toNat + v.toNat > 0xFFFF) } :=
  rfl

/-! ### DAA (R161) -/

section
variable (a : Byte) (f : Flags)

theorem daaLow_iff : daaLow a f = true ↔ a.toNat % 16 > 9 ∨ f.ac = true := by
  simp [daaLow, lowNibble]

theorem daaHigh_iff : daaHigh a f = true ↔
    a.toNat / 16 > 9 ∨ f.cy = true ∨ (a.toNat / 16 ≥ 9 ∧ a.toNat % 16 > 9) := by
  simp [daaHigh, highNibble, lowNibble, or_assoc]

/-- A after the first addition of the two-step algorithm, not narrowed (section 5 of 41_arithmetic.md). -/
def daaFirstStep : Nat := if daaLow a f then a.toNat + 6 else a.toNat

/-- The first addition carries into the high nibble exactly from a low nibble above 9: AC alone asks for it without a carry. -/
theorem daaFirstStep_div : daaFirstStep a f / 16 = a.toNat / 16 + if a.toNat % 16 > 9 then 1 else 0 := by
  simp only [daaFirstStep, daaLow_iff]
  by_cases hlow : a.toNat % 16 > 9
  · rw [if_pos (.inl hlow), if_pos hlow]
    omega
  · rw [if_neg hlow]
    split <;> omega

/-- The condition of R161, on A as it was, is that of the second step, on what the first has made of it. -/
theorem daaHigh_iff_firstStep : daaHigh a f = true ↔ daaFirstStep a f / 16 > 9 ∨ f.cy = true := by
  have hcarried : (a.toNat / 16 + if a.toNat % 16 > 9 then 1 else 0) > 9 ↔
      a.toNat / 16 > 9 ∨ (a.toNat / 16 ≥ 9 ∧ a.toNat % 16 > 9) := by
    split <;> omega
  rw [daaHigh_iff, daaFirstStep_div, hcarried, or_right_comm, or_assoc]

/-- The one addition is the two additions together. -/
theorem daa8_value_twoStep : (daa8 a f).value.toNat =
    (if daaHigh a f then daaFirstStep a f + 0x60 else daaFirstStep a f) % 256 := by
  rw [daa8_value_toNat, daaFirstStep]
  split <;> split <;> omega

end

end Sys2Proof.Machine

namespace Sys2Proof.Proofs

open Machine

/-- Settles O12: the carries as sub8 computes them, the other flags from the result byte, and the adder's identity. -/
theorem subResultAndFlags : Obligations.SubResultAndFlags := by
  intro a b c bor r
  exact ⟨sub8_value_toNat a b c, decide_eq_true_iff, decide_eq_true_iff, ofResult_z_iff _ _ _, ofResult_s_iff _ _ _,
    ofResult_p_iff _ _ _, rfl, sub8_eq_add8 a b c⟩

/-- Settles O13: the rules of the two operations, with an operand and with an immediate. -/
theorem addInstructions : Obligations.AddInstructions := by
  refine ⟨fun i src hi => ?add, fun i src hi => ?adc, fun d8 => ⟨?adi, ?aci⟩⟩
  case add => exact rule_of_form hi nofun rfl rfl (defaultCycles_alu 0 src) fun _ => rfl
  case adc => exact rule_of_form hi nofun rfl rfl (defaultCycles_alu 1 src) fun _ => rfl
  case adi => exact rule_of_form rfl nofun rfl rfl (by decide) fun _ => rfl
  case aci => exact rule_of_form rfl nofun rfl rfl (by decide) fun _ => rfl

/-- Settles O14: the rules of the two operations, with an operand and with an immediate. -/
theorem subInstructions : Obligations.SubInstructions := by
  refine ⟨fun i src hi => ?sub, fun i src hi => ?sbb, fun d8 => ⟨?sui, ?sbi⟩⟩
  case sub => exact rule_of_form hi nofun rfl rfl (defaultCycles_alu 2 src) fun _ => rfl
  case sbb => exact rule_of_form hi nofun rfl rfl (defaultCycles_alu 3 src) fun _ => rfl
  case sui => exact rule_of_form rfl nofun rfl rfl (by decide) fun _ => rfl
  case sbi => exact rule_of_form rfl nofun rfl rfl (by decide) fun _ => rfl

/-- Settles O15: the rules of the two families, with the byte and the flags that inc8 and dec8 make. -/
theorem incrementDecrement : Obligations.IncrementDecrement := by
  refine ⟨fun i o hi => ?inr, fun i o hi => ?dcr⟩
  case inr =>
    exact rule_of_form hi nofun rfl rfl (defaultCycles_inr_dcr o false) fun s => by rw [effect, State.increment, inc8_eq]
  case dcr =>
    exact rule_of_form hi nofun rfl rfl (defaultCycles_inr_dcr o true) fun s => by rw [effect, State.decrement, dec8_eq]

/-- Settles O16: the rules of the three families. -/
theorem pairArithmetic : Obligations.PairArithmetic := by
  refine ⟨fun i p hi => ?inx, fun i p hi => ?dcx, fun i p hi => ?dad⟩
  case inx => exact rule_of_form hi nofun rfl rfl (defaultCycles_inx_dcx p.code false) fun _ => rfl
  case dcx => exact rule_of_form hi nofun rfl rfl (defaultCycles_inx_dcx p.code true) fun _ => rfl
  case dad => exact rule_of_form hi nofun rfl rfl (defaultCycles_dad p.code) fun s => addToHl_eq s (s.pair p)

/-- Settles O17: the rule of DAA, its two conditions, and the flags of the result byte. -/
theorem daaFollowsPseudocode : Obligations.DaaFollowsPseudocode := by
  obtain ⟨hbytes, hcosts, hexec⟩ := rule_of_form (i := .daa) (op := 0x27) (cycles := 4) (f := State.decimalAdjust)
    rfl nofun rfl rfl (by decide) fun _ => rfl
  refine ⟨hbytes, hcosts, hexec, fun a f => ?daa8⟩
  simp only [← daaLow_iff, ← daaHigh_iff]
  exact ⟨daa8_value_toNat a f, Bool.or_eq_true_iff, decide_eq_true_iff, ofResult_z_iff _ _ _, ofResult_s_iff _ _ _, rfl⟩

/-- Settles O18: the second step is made exactly when R161 corrects the high nibble, so the additions are the same. -/
theorem daaIsTwoStepAlgorithm : Obligations.DaaIsTwoStepAlgorithm := by
  intro a f
  simp only [← daaLow_iff]
  have hsecond := daaHigh_iff_firstStep a f
  rw [daaFirstStep] at hsecond
  simp only [← hsecond]
  exact ⟨daa8_value_twoStep a f, by rw [daa8_cy]⟩

end Sys2Proof.Proofs
end

section
/-! SUPPORT. The logical instructions (42_logical.md R170 to R189): the flags of a logical result, the comparison read off the
subtraction, and the rotates and the complement in naturals. -/

namespace Sys2Proof.Machine

/-! ### Logical results (R170) -/

theorem setLogic_eq (s : State) (v : Byte) : s.setLogic v =
    (s.setReg .a v).setFlags { z := decide (v = 0), s := v.getLsbD 7, p := parity v, cy := false, ac := false } :=
  rfl

/-! ### Comparison (R180) -/

/-- The difference of two bytes is 0 modulo 256 only when they are equal. -/
theorem sub8_z_iff_eq (a b : Byte) : (sub8 a b false).flags.z = true ↔ a = b := by
  have hz : (sub8 a b false).flags.z = true ↔ (sub8 a b false).value.toNat = 0 := ofResult_z_iff _ _ _
  have hnoBorrow : bitNat false = 0 := rfl
  rw [hz, sub8_value_toNat, hnoBorrow, ← BitVec.toNat_inj]
  omega

theorem sub8_cy_iff_lt (a b : Byte) : (sub8 a b false).flags.cy = true ↔ a.toNat < b.toNat :=
  decide_eq_true_iff

/-! ### Rotates and the complement in naturals (R183 to R187) -/

theorem setWidth_bit1 (b : Bool) : (bit1 b).setWidth 8 = BitVec.ofNat 8 (bitNat b) := by
  cases b <;> rfl

/-- RLC and RAL shift a bit in at the low end. -/
theorem shiftLeft_or_bit1 (a : Byte) (b : Bool) :
    a <<< 1 ||| (bit1 b).setWidth 8 = BitVec.ofNat 8 (((a.toNat <<< 1) &&& 0xFF) ||| bitNat b) := by
  have hshift : a <<< 1 = BitVec.ofNat 8 ((a.toNat <<< 1) &&& 0xFF) := by
    apply BitVec.eq_of_toNat_eq
    rw [BitVec.toNat_shiftLeft, BitVec.toNat_ofNat, Nat.and_two_pow_sub_one_eq_mod _ 8, Nat.mod_mod]
  rw [hshift, setWidth_bit1, BitVec.ofNat_or]

/-- RRC and RAR shift a bit in at the high end. -/
theorem shiftRight_or_bit1 (a : Byte) (b : Bool) :
    a >>> 1 ||| (bit1 b).setWidth 8 <<< 7 = BitVec.ofNat 8 ((a.toNat >>> 1) ||| (bitNat b <<< 7)) := by
  have hbit : (bit1 b).setWidth 8 <<< 7 = BitVec.ofNat 8 (bitNat b <<< 7) := by
    cases b <;> rfl
  rw [hbit, BitVec.ofNat_or, ← BitVec.toNat_ushiftRight, BitVec.ofNat_toNat, BitVec.setWidth_eq]

theorem not_eq_ofNat_sub (a : Byte) : ~~~a = BitVec.ofNat 8 (255 - a.toNat) := by
  apply BitVec.eq_of_toNat_eq
  rw [BitVec.toNat_not, BitVec.toNat_ofNat]
  omega

/-- A rotate writes A and CY alone. -/
theorem rotate_eq {r : Rotated} {v : Nat} (s : State) (hvalue : r.value = BitVec.ofNat 8 v) :
    s.rotate r = (s.setReg .a (BitVec.ofNat 8 v)).setFlags { s.flags with cy := r.cy } :=
  hvalue ▸ rfl

end Sys2Proof.Machine

namespace Sys2Proof.Proofs

open Machine

/-- Settles O20: the rules of the three operations, with an operand and with an immediate. -/
theorem logicInstructions : Obligations.LogicInstructions := by
  refine ⟨fun i src hi => ?ana, fun i src hi => ?xra, fun i src hi => ?ora, fun d8 => ⟨?ani, ?xri, ?ori⟩⟩
  case ana => exact rule_of_form hi nofun rfl rfl (defaultCycles_alu 4 src) fun s => setLogic_eq s _
  case xra => exact rule_of_form hi nofun rfl rfl (defaultCycles_alu 5 src) fun s => setLogic_eq s _
  case ora => exact rule_of_form hi nofun rfl rfl (defaultCycles_alu 6 src) fun s => setLogic_eq s _
  case ani => exact rule_of_form rfl nofun rfl rfl (by decide) fun s => setLogic_eq s _
  case xri => exact rule_of_form rfl nofun rfl rfl (by decide) fun s => setLogic_eq s _
  case ori => exact rule_of_form rfl nofun rfl rfl (by decide) fun s => setLogic_eq s _

/-- Settles O21: the rules of CMP and CPI, and what Z and CY of a subtraction without borrow say of its operands. -/
theorem compareInstructions : Obligations.CompareInstructions := by
  refine ⟨fun i src hi => ?cmp, fun d8 => ?cpi, fun a b => ⟨sub8_z_iff_eq a b, sub8_cy_iff_lt a b⟩⟩
  case cmp => exact rule_of_form hi nofun rfl rfl (defaultCycles_alu 7 src) fun _ => rfl
  case cpi => exact rule_of_form rfl nofun rfl rfl (by decide) fun _ => rfl

/-- Settles O22: the four rules; RLC and RRC shift in the bit that leaves A, RAL and RAR the old carry. -/
theorem rotateInstructions : Obligations.RotateInstructions := by
  refine ⟨?rlc, ?rrc, ?ral, ?rar⟩
  case rlc => exact rule_of_form rfl nofun rfl rfl (by decide) fun s => rotate_eq s (shiftLeft_or_bit1 _ _)
  case rrc => exact rule_of_form rfl nofun rfl rfl (by decide) fun s => rotate_eq s (shiftRight_or_bit1 _ _)
  case ral => exact rule_of_form rfl nofun rfl rfl (by decide) fun s => rotate_eq s (shiftLeft_or_bit1 _ _)
  case rar => exact rule_of_form rfl nofun rfl rfl (by decide) fun s => rotate_eq s (shiftRight_or_bit1 _ _)

/-- Settles O23: the three rules; the complement of a byte is its distance from 255. -/
theorem complementAndCarry : Obligations.ComplementAndCarry := by
  refine ⟨?cma, ?cmc, ?stc⟩
  case cma =>
    exact rule_of_form rfl nofun rfl rfl (by decide) fun s => congrArg (s.setReg .a) (not_eq_ofNat_sub (s.reg .a))
  case cmc => exact rule_of_form rfl nofun rfl rfl (by decide) fun _ => rfl
  case stc => exact rule_of_form rfl nofun rfl rfl (by decide) fun _ => rfl

end Sys2Proof.Proofs
end

section
/-! SUPPORT. Calls and returns (43_branch.md R202 to R206): the rule of a conditional instruction in one piece, the counts of the
families (70_reset_and_hazards.md R320), and the stack accesses of a call and of a return byte by byte. -/

namespace Sys2Proof.Machine

/-- The head and the effect of a conditional instruction's rule, read off the family. -/
theorem rule_of_conditional_form {i : Instr} {x : Form} {op : Byte} {bytes : List Byte} {notTaken taken : Nat} {cc : Cond}
    {f : State → State} (hi : i.form = x) (hx : ∀ op, x ≠ .unsupported op) (hop : x.opcode = op) (hbytes : x.operandBytes = bytes)
    (hn : defaultCycles op false = notTaken) (ht : defaultCycles op true = taken)
    (hcond : ∀ fl, conditionTaken i fl = condHolds cc fl) (heffect : ∀ s, effect x s = s.onCondition cc (f s)) :
    i.encodedAs (op :: bytes) ∧ i.costs notTaken taken ∧ (∀ fl, conditionTaken i fl = condHolds cc fl) ∧
      ∀ s, exec i s = .next (if condHolds cc s.flags then f s else s) := by
  subst hop hbytes
  exact ⟨encodedAs_of_form hi hx, costs_of_opcode (congrArg Form.opcode hi) hn ht, hcond,
    fun s => (exec_of_form hi s).trans (congrArg Host.Outcome.next (heffect s))⟩

/-! ### Conditions (R95) -/

theorem conditionTaken_ccc {i : Instr} {cc : Cond} {a16 : Word} (hi : i.form = .ccc cc a16) (f : Flags) :
    conditionTaken i f = condHolds cc f := by
  rw [conditionTaken, hi]

theorem conditionTaken_rcc {i : Instr} {cc : Cond} (hi : i.form = .rcc cc) (f : Flags) :
    conditionTaken i f = condHolds cc f := by
  rw [conditionTaken, hi]

/-! ### Cycles (R320) -/

theorem defaultCycles_ccc : ∀ (cc : BitVec 3) (taken : Bool),
    defaultCycles (octal 0b11 cc 0b100) taken = if taken then 17 else 11 := by
  decide

theorem defaultCycles_rcc : ∀ (cc : BitVec 3) (taken : Bool),
    defaultCycles (octal 0b11 cc 0b000) taken = if taken then 11 else 5 := by
  decide

theorem defaultCycles_rst : ∀ (n : BitVec 3) (taken : Bool), defaultCycles (octal 0b11 n 0b111) taken = 11 := by
  decide

/-! ### The stack (R202, R204) -/

theorem callTo_eq (s : State) (target : Word) : s.callTo target =
    (((s.write8 (s.sp - 1) (hiByte s.pc)).write8 (s.sp - 2) (loByte s.pc)).setSp (s.sp - 2)).setPc target :=
  rfl

theorem returnFromCall_eq (s : State) :
    s.returnFromCall = (s.setSp (s.sp + 2)).setPc (word16 (s.read8 (s.sp + 1)) (s.read8 s.sp)) :=
  rfl

end Sys2Proof.Machine

namespace Sys2Proof.Proofs

open Machine

/-- Settles O25: the rules of the three families; each that calls pushes the PC and goes to its target. -/
theorem callInstructions : Obligations.CallInstructions := by
  refine ⟨fun a16 => ?call, fun i cc a16 hi => ?ccc, fun i n hi => ?rst⟩
  case call => exact rule_of_form rfl nofun rfl rfl (by decide) fun s => callTo_eq s a16
  case ccc =>
    exact rule_of_conditional_form hi nofun rfl rfl (defaultCycles_ccc cc.code false) (defaultCycles_ccc cc.code true)
      (conditionTaken_ccc hi) fun s => congrArg (s.onCondition cc) (callTo_eq s a16)
  case rst => exact rule_of_form hi nofun rfl rfl (defaultCycles_rst n) fun s => callTo_eq s (vectorAddress n)

/-- Settles O26: the rules of the two families; each that returns pops the PC. -/
theorem returnInstructions : Obligations.ReturnInstructions := by
  refine ⟨?ret, fun i cc hi => ?rcc⟩
  case ret => exact rule_of_form rfl nofun rfl rfl (by decide) returnFromCall_eq
  case rcc =>
    exact rule_of_conditional_form hi nofun rfl rfl (defaultCycles_rcc cc.code false) (defaultCycles_rcc cc.code true)
      (conditionTaken_rcc hi) fun s => congrArg (s.onCondition cc) (returnFromCall_eq s)

end Sys2Proof.Proofs
end

section
/-! SUPPORT. The stack and machine control instructions (44_stack_io_control.md R220 to R233): pushes and pops byte by byte, the flag byte
(10_state.md R35), a pop after a push, and the permanent halt over any number of steps. -/

namespace Sys2Proof.Machine

/-! ### Cycles (R320) -/

theorem defaultCycles_push : ∀ (p : BitVec 2) (taken : Bool), defaultCycles (pairByte 0b11 p 0b0101) taken = 11 := by
  decide

theorem defaultCycles_pop : ∀ (p : BitVec 2) (taken : Bool), defaultCycles (pairByte 0b11 p 0b0001) taken = 10 := by
  decide

/-! ### The flag byte (R35) -/

/-- The layout of the flag byte as a sum of powers of two: bit 1 always, bits 3 and 5 never. -/
theorem pack_eq_ofNat (f : Flags) : f.pack = BitVec.ofNat 8
    ((if f.s then 2 ^ 7 else 0) + (if f.z then 2 ^ 6 else 0) + (if f.ac then 2 ^ 4 else 0) + (if f.p then 2 ^ 2 else 0) + 2
      + (if f.cy then 2 ^ 0 else 0)) := by
  obtain ⟨s, z, ac, p, cy⟩ := f
  revert s z ac p cy
  decide

/-! ### The stack byte by byte (R220, R221, R226) -/

variable (s : State)

theorem push16_word16 (hi lo : Byte) : s.push16 (word16 hi lo) =
    ((s.write8 (s.sp - 1) hi).write8 (s.sp - 2) lo).setSp (s.sp - 2) := by
  simp [State.push16]

theorem setPsw_word16 (a f : Byte) : s.setPsw (word16 a f) = (s.setReg .a a).setFlags (.unpack f) := by
  simp [State.setPsw]

/-- XTHL reads both bytes of the top of the stack from the state before its writes (R226). -/
theorem exchangeTopHl_eq : s.exchangeTopHl =
    (((s.write8 s.sp (s.reg .l)).write8 (s.sp + 1) (s.reg .h)).setReg .l (s.read8 s.sp)).setReg .h (s.read8 (s.sp + 1)) :=
  (setHl_word16 _ _ _).trans rfl

/-! ### A pop after a push -/

theorem push16_popped_sp (v : Word) : (s.push16 v).popped.sp = s.sp :=
  BitVec.sub_add_cancel s.sp 2

variable {s}

theorem push16_read8_low (v : Word) (h : dropsWrite s.config (s.sp - 2) = false) :
    (s.push16 v).read8 (s.sp - 2) = loByte v := by
  rw [State.push16, read8_setSp, read8_write8, write8_config, if_pos ⟨rfl, h⟩]

theorem push16_read8_high (v : Word) (h : dropsWrite s.config (s.sp - 1) = false) :
    (s.push16 v).read8 (s.sp - 1) = hiByte v := by
  have hne : s.sp - 1 ≠ s.sp - 2 := by bv_omega
  rw [State.push16, read8_setSp, read8_write8_other _ _ hne, read8_write8, if_pos ⟨rfl, h⟩]

theorem push16_popValue (v : Word) (hhigh : dropsWrite s.config (s.sp - 1) = false)
    (hlow : dropsWrite s.config (s.sp - 2) = false) : (s.push16 v).popValue = v := by
  have hnext : s.sp - 2 + 1 = s.sp - 1 := by bv_omega
  calc (s.push16 v).popValue
    _ = word16 ((s.push16 v).read8 (s.sp - 2 + 1)) ((s.push16 v).read8 (s.sp - 2)) := rfl
    _ = v := by rw [hnext, push16_read8_high v hhigh, push16_read8_low v hlow, word16_hiByte_loByte]

/-! ### The halt with interrupts disabled (R232, R261) -/

/-- `t` is halted with interrupts disabled and nothing pending, and has the registers, flags, SP, PC and memory of `s`. -/
structure State.IdlesAs (s t : State) : Prop where
  halted : t.halted = true
  ie : t.ie = false
  pending : t.pending = none
  fault : t.fault = none
  regs : t.regs = s.regs
  flags : t.flags = s.flags
  sp : t.sp = s.sp
  pc : t.pc = s.pc
  mem : t.mem = s.mem

/-- With IE clear an event that comes due raises no vector (R252). -/
theorem schedule_pending_none {u : State} (hp : u.pending = none) (hie : u.ie = false) (c : Nat) :
    (u.schedule c).pending = none :=
  Option.eq_none_iff_forall_ne_some.mpr fun _ hv => Bool.false_ne_true (hie.symm.trans (schedule_pending_some hp hv).1)

/-- A step of such a state is the scheduler's part alone. -/
theorem step_idlesAs {t u : State} (h : s.IdlesAs t) (hstep : step t = .next u) : s.IdlesAs u := by
  rw [step_halted (step_cases hstep).1 h.pending h.halted] at hstep
  obtain rfl := Host.Outcome.next.inj hstep
  exact {
    halted := (schedule_halted t _).trans h.halted
    ie := (schedule_ie t _).trans h.ie
    pending := schedule_pending_none h.pending h.ie _
    fault := (schedule_fault t _).trans h.fault
    regs := (schedule_regs t _).trans h.regs
    flags := (schedule_flags t _).trans h.flags
    sp := (schedule_sp t _).trans h.sp
    pc := (schedule_pc t _).trans h.pc
    mem := (schedule_mem t _).trans h.mem }

/-- What every step keeps, every run keeps. -/
theorem run_keeps {M : Host.Core} {P : M.State → Prop} (hstep : ∀ {s t}, P s → M.step s = .next t → P t) {k : Nat}
    {s t : M.State} (hs : P s) (h : M.run k s = .next t) : P t := by
  induction k generalizing s with
  | zero => exact Host.Outcome.next.inj h ▸ hs
  | succ k ih =>
    rw [Host.Core.run] at h
    split at h
    · next u hu => exact ih (hstep hs hu) h
    · cases h
    · cases h

end Sys2Proof.Machine

namespace Sys2Proof.Proofs

open Machine

/-- Settles O27: the rules of the two families, pair by pair; the two registers of a pair may be written in either order. -/
theorem pushPopPairs : Obligations.PushPopPairs := by
  refine ⟨fun i p hi => ?push, fun i p hi => ?pop⟩
  case push =>
    refine rule_of_form hi nofun rfl rfl (defaultCycles_push p.code) fun s => ?_
    cases p
    case bc => exact push16_word16 s (s.reg .b) (s.reg .c)
    case de => exact push16_word16 s (s.reg .d) (s.reg .e)
    case hl => exact push16_word16 s (s.reg .h) (s.reg .l)
  case pop =>
    refine rule_of_form hi nofun rfl rfl (defaultCycles_pop p.code) fun s => ?_
    cases p
    case bc => exact (setBc_word16 s.popped _ _).trans rfl
    case de => exact (setDe_word16 s.popped _ _).trans rfl
    case hl => exact (setHl_word16 s.popped _ _).trans rfl

/-- Settles O28: the two rules, with the flag byte as a number. -/
theorem pushPopPsw : Obligations.PushPopPsw := by
  refine ⟨?push, ?pop⟩
  case push =>
    exact rule_of_form rfl nofun rfl rfl (by decide) fun s =>
      (push16_word16 s (s.reg .a) s.flags.pack).trans (by rw [pack_eq_ofNat])
  case pop => exact rule_of_form rfl nofun rfl rfl (by decide) fun s => (setPsw_word16 s.popped _ _).trans rfl

/-- Settles O29: the two rules. -/
theorem xthlSphl : Obligations.XthlSphl := by
  refine ⟨?xthl, ?sphl⟩
  case xthl => exact rule_of_form rfl nofun rfl rfl (by decide) exchangeTopHl_eq
  case sphl => exact rule_of_form rfl nofun rfl rfl (by decide) fun _ => rfl

/-- Settles O30: the two bytes are read back where the push stored them, and SP goes down and up by 2. -/
theorem popAfterPush : Obligations.PopAfterPush := by
  intro s v
  exact ⟨hiByte_toNat v, loByte_toNat v, rfl, push16_popped_sp s v, fun hhigh hlow =>
    ⟨push16_popValue v hhigh hlow, push16_read8_high v hhigh, push16_read8_low v hlow⟩⟩

/-- Settles O37: the four rules. -/
theorem controlInstructions : Obligations.ControlInstructions := by
  refine ⟨?ei, ?di, ?hlt, ?nop⟩
  case ei => exact rule_of_form rfl nofun rfl rfl (by decide) fun _ => rfl
  case di => exact rule_of_form rfl nofun rfl rfl (by decide) fun _ => rfl
  case hlt => exact rule_of_form rfl nofun rfl rfl (by decide) fun _ => rfl
  case nop => exact rule_of_form rfl nofun rfl rfl (by decide) fun _ => rfl

/-- Settles O55: the halted state idles as itself at the start, and every step keeps that. -/
theorem haltWithoutInterruptsIsPermanent : Obligations.HaltWithoutInterruptsIsPermanent := by
  intro k s t hfault hhalted hie hpending h
  have hstart : s.IdlesAs s := ⟨hhalted, hie, hpending, hfault, rfl, rfl, rfl, rfl, rfl⟩
  have hend : s.IdlesAs t := run_keeps (M := core) step_idlesAs hstart h
  exact ⟨hend.halted, hend.ie, hend.pending, hend.fault, hend.regs, hend.flags, hend.sp, hend.pc, hend.mem⟩

end Sys2Proof.Proofs
end

section
/-! SUPPORT. The ports (60_exceptions.md R280 to R291): what IN reads, what OUT does by the role of the port, and the sound events of
writes that follow each other. -/

namespace Sys2Proof.Machine

/-! ### IN (R281 to R283, R289) -/

/-- The window holds bits `15 - n` to `8 - n` of the shift register (R282). -/
theorem shiftWindow_getLsbD (register : Word) (n : BitVec 3) {k : Nat} (hk : k < 8) :
    (shiftWindow register n).getLsbD k = register.getLsbD (8 - n.toNat + k) := by
  rw [shiftWindow, BitVec.getLsbD_ofNat, Nat.testBit_shiftRight, decide_eq_true hk, Bool.true_and, BitVec.testBit_toNat]

section
variable {s : State} {p : Byte}

theorem portIn_shiftRead (h : p = s.config.shiftReadPort) : s.portIn p = shiftWindow s.shiftRegister s.shiftAmount :=
  if_pos h

theorem portIn_input (hshift : p ≠ s.config.shiftReadPort) (h : p ∈ s.config.inputPorts) : s.portIn p = s.inputAt p := by
  rw [State.portIn, if_neg hshift, if_pos (List.contains_iff_mem.mpr h)]

theorem portIn_noRole (hshift : p ≠ s.config.shiftReadPort) (h : p ∉ s.config.inputPorts) : s.portIn p = 0 := by
  rw [State.portIn, if_neg hshift, if_neg (mt List.contains_iff_mem.mp h)]

/-! ### OUT to the shift ports and to a port without a role (R284 to R286, R289) -/

theorem low3_eq_ofNat (v : Byte) : v.extractLsb' 0 3 = BitVec.ofNat 3 (v.toNat % 8) := by
  apply BitVec.eq_of_toNat_eq
  rw [BitVec.extractLsb'_toNat, Nat.shiftRight_zero, BitVec.toNat_ofNat, Nat.mod_mod]

/-- The byte written goes above the old high byte (R286). -/
theorem shiftInsert_eq_word16 (register : Word) (v : Byte) : shiftInsert register v = word16 v (hiByte register) := by
  have hlow : register.toNat >>> 8 = (hiByte register).toNat := by
    rw [hiByte_toNat, Nat.shiftRight_eq_div_pow]
  have hword : (word16 v (hiByte register)).toNat = v.toNat <<< 8 ||| (hiByte register).toNat :=
    BitVec.toNat_append v (hiByte register)
  rw [shiftInsert, hlow, ← hword, BitVec.ofNat_toNat, BitVec.setWidth_eq]

theorem portOut_shiftAmount (v : Byte) (h : p = s.config.shiftAmountPort) :
    s.portOut p v = s.setShiftAmount (BitVec.ofNat 3 (v.toNat % 8)) := by
  rw [State.portOut, if_pos h, low3_eq_ofNat]

theorem portOut_shiftData (v : Byte) (hamount : p ≠ s.config.shiftAmountPort) (h : p = s.config.shiftDataPort) :
    s.portOut p v = s.setShiftRegister (word16 v (hiByte s.shiftRegister)) := by
  rw [State.portOut, if_neg hamount, if_pos h, shiftInsert_eq_word16]

theorem portOut_noRole (v : Byte) (hamount : p ≠ s.config.shiftAmountPort) (hdata : p ≠ s.config.shiftDataPort)
    (hmask : maskAt s.config p = none) : s.portOut p v = s := by
  rw [State.portOut, if_neg hamount, if_neg hdata, hmask]

end

/-- Two data writes leave nothing of the old register (R291). -/
theorem portOut_shiftData_twice (s : State) (v w : Byte) (h : s.config.shiftDataPort ≠ s.config.shiftAmountPort) :
    (s.portOut s.config.shiftDataPort v).portOut s.config.shiftDataPort w = s.setShiftRegister (word16 w v) :=
  calc (s.portOut s.config.shiftDataPort v).portOut s.config.shiftDataPort w
    _ = (s.setShiftRegister (word16 v (hiByte s.shiftRegister))).portOut s.config.shiftDataPort w := by
      rw [portOut_shiftData v h rfl]
    _ = s.setShiftRegister (word16 w (hiByte (word16 v (hiByte s.shiftRegister)))) :=
      portOut_shiftData (s := s.setShiftRegister _) w h rfl
    _ = s.setShiftRegister (word16 w v) := by rw [hiByte_word16]

/-! ### OUT to a sound port (R287, R288) -/

/-- Port `p` is a sound port with mask `m`: it has no role that comes before in the order of R284. -/
structure State.SoundPort (s : State) (p m : Byte) : Prop where
  notAmount : p ≠ s.config.shiftAmountPort
  notData : p ≠ s.config.shiftDataPort
  mask : maskAt s.config p = some m

section
variable {s : State} {p m : Byte} (h : s.SoundPort p m)
include h

theorem State.SoundPort.after_portOut (v : Byte) : (s.portOut p v).SoundPort p m := by
  constructor <;> rw [portOut_config]
  · exact h.notAmount
  · exact h.notData
  · exact h.mask

theorem State.SoundPort.latchAt_portOut (v : Byte) : (s.portOut p v).latchAt p = v &&& m := by
  rw [portOut_sound s v h.notAmount h.notData h.mask, soundWrite_latchAt, if_pos rfl]

theorem State.SoundPort.soundEvents_portOut (v : Byte) :
    (s.portOut p v).soundEvents = s.soundEvents ++ risingEvents p (v &&& m) (s.latchAt p) := by
  rw [portOut_sound s v h.notAmount h.notData h.mask]
  rfl

/-- Of three writes each is compared with the one before it (R287). -/
theorem State.SoundPort.soundEvents_three_portOuts (v₁ v₂ v₃ : Byte) :
    (((s.portOut p v₁).portOut p v₂).portOut p v₃).soundEvents =
      s.soundEvents ++ risingEvents p (v₁ &&& m) (s.latchAt p) ++ risingEvents p (v₂ &&& m) (v₁ &&& m)
        ++ risingEvents p (v₃ &&& m) (v₂ &&& m) := by
  have h₁ := h.after_portOut v₁
  have h₂ := h₁.after_portOut v₂
  rw [h₂.soundEvents_portOut, h₁.soundEvents_portOut, h.soundEvents_portOut, h₁.latchAt_portOut, h.latchAt_portOut]

end

theorem setBits_zero : setBits 0 = [] := rfl

theorem setBits_singleBit : ∀ k : Fin 8, setBits (1#8 <<< k.val) = [k] := by
  decide

/-- A byte that stays raises nothing: only edges count, not levels (R288). -/
theorem risingEvents_same (p v : Byte) : risingEvents p v v = [] := by
  have hnone : v &&& ~~~v = 0 := BitVec.and_not_self v
  rw [risingEvents, hnone, setBits_zero, List.map_nil]

theorem risingEvents_to_zero (p old : Byte) : risingEvents p 0 old = [] := by
  have hnone : 0 &&& ~~~old = 0 := BitVec.zero_and
  rw [risingEvents, hnone, setBits_zero, List.map_nil]

theorem risingEvents_singleBit_from_zero (p : Byte) (k : Fin 8) : risingEvents p (1#8 <<< k.val) 0 = [⟨p, k⟩] := by
  have hall : (1#8 <<< k.val) &&& ~~~0 = 1#8 <<< k.val := BitVec.and_allOnes
  rw [risingEvents, hall, setBits_singleBit, List.map_singleton]

/-- A bit of the mask passes it. -/
theorem singleBit_and_mask {m : Byte} {k : Nat} (h : m.getLsbD k = true) : (1#8 <<< k) &&& m = 1#8 <<< k := by
  rw [← BitVec.twoPow_eq, BitVec.twoPow_and, if_pos h]

end Sys2Proof.Machine

namespace Sys2Proof

/-- The conditions of U10 keep the two shift ports apart. -/
theorem Config.shiftPorts_ne {c : Config} (hc : c.wf = true) : c.shiftDataPort ≠ c.shiftAmountPort := by
  simp only [Config.wf, Bool.and_eq_true] at hc
  obtain ⟨-, hroles⟩ := hc
  simp only [Config.outRoles, distinct, Bool.and_eq_true, Bool.not_eq_true', List.contains_cons, Bool.or_eq_false_iff,
    beq_eq_false_iff_ne] at hroles
  exact hroles.1.1.symm

end Sys2Proof

namespace Sys2Proof.Proofs

open Machine

/-- Settles O32: the rule of IN, whose byte is the window, the snapshot or 0 by the role of the port. -/
theorem inReadsPort : Obligations.InReadsPort := by
  intro p
  obtain ⟨hencoded, hcosts, hexec⟩ := rule_of_form (i := .inPort p) (op := 0xDB) (bytes := [p]) (cycles := 10)
    (f := fun s => s.setReg .a (s.portIn p)) rfl nofun rfl rfl (by decide) fun _ => rfl
  refine ⟨hencoded, hcosts, fun s => ⟨s.portIn p, hexec s, fun hp k hk => ?shiftRead, portIn_input, portIn_noRole⟩⟩
  case shiftRead => rw [portIn_shiftRead hp, shiftWindow_getLsbD _ _ hk]

/-- Settles O33: the rule of OUT, whose write is the shift amount, the shift register or nothing by the role of the port. -/
theorem outWritesShiftPorts : Obligations.OutWritesShiftPorts := by
  intro p
  obtain ⟨hencoded, hcosts, hexec⟩ := rule_of_form (i := .outPort p) (op := 0xD3) (bytes := [p]) (cycles := 10)
    (f := fun s => s.portOut p (s.reg .a)) rfl nofun rfl rfl (by decide) fun _ => rfl
  refine ⟨hencoded, hcosts, fun s => ⟨fun hamount => ?amount, fun hamount hdata => ?data, fun hamount hdata hmask => ?noRole⟩⟩
    <;> refine (hexec s).trans (congrArg Host.Outcome.next ?_)
  case amount => exact portOut_shiftAmount (s.reg .a) hamount
  case data => exact portOut_shiftData (s.reg .a) hamount hdata
  case noRole => exact portOut_noRole (s.reg .a) hamount hdata hmask

/-- Settles O35: each write is compared with the one before it, so a write of 1 gives its event after 0 and none after 1. -/
theorem soundToggleGivesTwoEvents : Obligations.SoundToggleGivesTwoEvents := by
  intro s p m k hamount hdata hmask hbit hlatch on
  have hport : s.SoundPort p m := ⟨hamount, hdata, hmask⟩
  have hon : on &&& m = on := singleBit_and_mask hbit
  have hoff : 0 &&& m = 0 := BitVec.zero_and
  have hrise : risingEvents p on 0 = [⟨p, k⟩] := risingEvents_singleBit_from_zero p k
  constructor
  · rw [hport.soundEvents_three_portOuts, hlatch, hon, hoff, hrise, risingEvents_to_zero]
    simp
  · rw [hport.soundEvents_three_portOuts, hlatch, hon, hrise, risingEvents_same]
    simp

/-- Settles O36: the register after the two writes, and its window in the two worked reads. -/
theorem shiftRegisterAfterTwoWrites : Obligations.ShiftRegisterAfterTwoWrites := by
  intro s v1 v2 hc t
  have ht : t = s.setShiftRegister (word16 v2 v1) := portOut_shiftData_twice s v1 v2 (Config.shiftPorts_ne hc)
  have hread : t.portIn s.config.shiftReadPort = shiftWindow (word16 v2 v1) s.shiftAmount := by
    rw [ht]
    exact portIn_shiftRead rfl
  rw [hread, ht]
  refine ⟨rfl, rfl, fun hamount h1 h2 => ?lowOnes, fun hamount h1 h2 => ?highOnes⟩ <;> rw [hamount, h1, h2]
  case lowOnes => decide
  case highOnes => decide

end Sys2Proof.Proofs
end

section
/-! SUPPORT. The steps that fetch nothing, the stops, and the scheduler's part in full (60_exceptions.md R240, R250 to R276). -/

namespace Sys2Proof.Machine

variable {s : State}

/-! ### Where a step is taken (R240, R244, R276) -/

theorem step_fatal {e : FatalError} (h : s.fault = some e) : step s = .fault (.fatal e) := by
  rw [step, schedulerIteration, h]

theorem step_stopped (hfault : s.fault = none) (h : s.run = .stopped) : step s = .fault .runStopped := by
  rw [step, schedulerIteration, hfault, h]

theorem afterCpuStep_next (c : Nat) (u : State) : ∃ t, afterCpuStep c (.next u) = .next t := by
  rw [afterCpuStep]
  split
  · exact ⟨u, rfl⟩
  · exact ⟨u.schedule c, rfl⟩

theorem step_completes (h : s.live) : ∃ t, step s = .next t := by
  rw [step_live h, cpuStep_eq]
  exact afterCpuStep_next _ _

/-! ### Interrupt entry in full (R253) -/

/-- The two bytes of the PC are stored below SP, then the registers of the interrupt system are written. -/
theorem interruptEntry_eq (s : State) (v : BitVec 3) : s.interruptEntry v =
    { (s.write8 (s.sp - 1) (hiByte s.pc)).write8 (s.sp - 2) (loByte s.pc) with
      sp := s.sp - 2, pc := vectorAddress v, ie := false, halted := false, pending := none } := by
  rw [State.interruptEntry, callTo_eq]
  simp only [write8_setIe, write8_setHalted, write8_setPending, setIe_sp, setHalted_sp, setPending_sp, setIe_pc, setHalted_pc,
    setPending_pc]
  rfl

/-! ### The scheduler's part in full (R271 to R273) -/

theorem raiseInterrupt_eq (s : State) (v : BitVec 3) :
    s.raiseInterrupt v = s.setPending (if s.ie then some v else s.pending) := by
  unfold State.raiseInterrupt
  split <;> rfl

theorem schedule_below {c : Nat} (h : s.halfCycles + c < s.config.halfBudget) : s.schedule c = s.countCycles c := by
  rcases schedule_cases s c with ⟨-, he⟩ | ⟨hge, -⟩ | ⟨hge, -⟩
  · exact he
  · exact absurd h (Nat.not_lt.mpr hge)
  · exact absurd h (Nat.not_lt.mpr hge)

theorem schedule_first {c : Nat} (h : s.config.halfBudget ≤ s.halfCycles + c) (hphase : s.phase = .first) :
    s.schedule c = (s.countCycles c).midFrame := by
  rcases schedule_cases s c with ⟨hlt, -⟩ | ⟨-, -, he⟩ | ⟨-, hsecond, -⟩
  · exact absurd h (Nat.not_le.mpr hlt)
  · exact he
  · exact absurd (hphase.symm.trans hsecond) nofun

theorem schedule_second {c : Nat} (h : s.config.halfBudget ≤ s.halfCycles + c) (hphase : s.phase = .second) :
    s.schedule c = (s.countCycles c).endOfFrame := by
  rcases schedule_cases s c with ⟨hlt, -⟩ | ⟨-, hfirst, -⟩ | ⟨-, -, he⟩
  · exact absurd h (Nat.not_le.mpr hlt)
  · exact absurd (hphase.symm.trans hfirst) nofun
  · exact he

end Sys2Proof.Machine

namespace Sys2Proof.Proofs

open Machine

/-- Settles O45: the two stops. -/
theorem noStepAfterTheEnd : Obligations.NoStepAfterTheEnd :=
  ⟨fun _ _ => step_fatal, fun _ => step_stopped⟩

/-- Settles O46: the CPU's part answers a next state and so does the iteration; the fatal error comes from a fetch alone. -/
theorem everyLiveStepCompletes : Obligations.EveryLiveStepCompletes := by
  intro s hl
  obtain ⟨t, ht⟩ := step_completes hl
  exact ⟨t, ht, fetched_unsupported_of_step_fault ht⟩

/-- Settles O47: the step with a vector pending schedules the interrupt entry, the step while halted the state as it was. -/
theorem interruptEntryAndHaltedSteps : Obligations.InterruptEntryAndHaltedSteps := by
  refine ⟨fun s v hl hp => ?entry, fun s => step_halted⟩
  case entry =>
    rw [step_pending hl hp, interruptEntry_eq]
    rfl

/-- Settles O48: the three cases of the scheduler's part, with the vector raised as the value that `pending` takes. -/
theorem schedulerEvents : Obligations.SchedulerEvents := by
  intro s c u
  refine ⟨schedule_below, fun hdue hphase => ?midFrame, fun hdue hphase => ?endOfFrame⟩
  case midFrame =>
    rw [schedule_first hdue hphase, State.midFrame, raiseInterrupt_eq]
    rfl
  case endOfFrame =>
    rw [schedule_second hdue hphase, State.endOfFrame, raiseInterrupt_eq]
    rfl

/-- Settles O50: the step is interrupt entry, which clears all three, and with IE clear the scheduler's part raises no vector. -/
theorem pendingVectorIsConsumed : Obligations.PendingVectorIsConsumed := by
  intro s t hpending h
  obtain ⟨v, hv⟩ := Option.ne_none_iff_exists'.mp hpending
  rw [step_pending (step_cases h).1 hv] at h
  obtain rfl := Host.Outcome.next.inj h
  rw [schedule_ie, schedule_halted]
  exact ⟨schedule_pending_none (interruptEntry_pending s v) (interruptEntry_ie s v) _, interruptEntry_ie s v,
    interruptEntry_halted s v⟩

end Sys2Proof.Proofs
end

section
/-! SUPPORT. Three bytes placed at the PC as a loader would place them (70_reset_and_hazards.md R300; log 5): what memory holds then, and
what the next step fetches. -/

namespace Sys2Proof

/-- The instruction a table row's bits stand for is the map's entry for their three bytes. -/
theorem decodeBytes_of_decodeTableWord {nbits w : Nat} {i : Instr} (h : decodeTableWord nbits w = some i) :
    decodeBytes (byteOfNat (w % 2 ^ nbits) 0) (byteOfNat (w % 2 ^ nbits) 1) (byteOfNat (w % 2 ^ nbits) 2) = i := by
  rw [decodeTableWord] at h
  split at h
  · next hd => exact (decodeBytes_of_decode hd).trans (Option.some.inj h)
  · cases h

end Sys2Proof

namespace Sys2Proof.Machine

variable (s : State) (b1 b2 b3 : Byte)

@[simp] theorem placeAtPc_pc : (s.placeAtPc b1 b2 b3).pc = s.pc := rfl

theorem placeAtPc_fetching : (s.placeAtPc b1 b2 b3).fetching := ⟨⟨rfl, rfl⟩, rfl, rfl⟩

/-- Memory after the placing: the three bytes from the PC on, modulo 2^16, and every other byte as it was. -/
theorem read8_placeAtPc (a : Word) : (s.placeAtPc b1 b2 b3).read8 a =
    if a = s.pc + 2 then b3 else if a = s.pc + 1 then b2 else if a = s.pc then b1 else s.read8 a := by
  simp only [State.read8, State.placeAtPc, get_set, BitVec.toNat_inj]

/-- The placing leaves its opcode byte in `ModeledOpcodes`. -/
theorem placeAtPc_enabled : (s.placeAtPc b1 b2 b3).config.disabledOpcodes.contains b1 = false := by
  simp [State.placeAtPc]

/-- The three addresses of a fetch are distinct, so each placed byte is read back, and the map's entry for them is fetched. -/
theorem fetched_placeAtPc : (s.placeAtPc b1 b2 b3).fetched = decodeBytes b1 b2 b3 := by
  have h01 : s.pc ≠ s.pc + 1 := by bv_omega
  have h02 : s.pc ≠ s.pc + 2 := by bv_omega
  have h12 : s.pc + 1 ≠ s.pc + 2 := by bv_omega
  have hfirst : (s.placeAtPc b1 b2 b3).read8 s.pc = b1 := by rw [read8_placeAtPc, if_neg h02, if_neg h01, if_pos rfl]
  have hsecond : (s.placeAtPc b1 b2 b3).read8 (s.pc + 1) = b2 := by rw [read8_placeAtPc, if_neg h12, if_pos rfl]
  have hthird : (s.placeAtPc b1 b2 b3).read8 (s.pc + 2) = b3 := by rw [read8_placeAtPc, if_pos rfl]
  rw [State.fetched, placeAtPc_pc, hfirst, hsecond, hthird, decodeModeled_enabled (placeAtPc_enabled s b1 b2 b3)]

end Sys2Proof.Machine

namespace Sys2Proof.Proofs

open Machine

/-- Settles O5: the bytes placed at the PC are the word's own, and the map's entry for them is the instruction decoded from the word. -/
theorem placedWordIsFetched : Obligations.PlacedWordIsFetched := by
  intro s nbits w i h
  exact ⟨placeAtPc_fetching s _ _ _, (fetched_placeAtPc s _ _ _).trans (decodeBytes_of_decodeTableWord h),
    placeAtPc_pc s _ _ _⟩

end Sys2Proof.Proofs
end
